-- ==== Sys2Proof/Word.lean ====
section
/-! DEFINITION. The words the block handles: bytes, 16-bit values, and the levels of a line
(spec/00_scope.md R16, spec/20_memory.md R43). -/

namespace Sys2Proof

/-- A byte, an integer 0..255 (R16). -/
abbrev Byte := BitVec 8

/-- A u16: a duty (R9) or a window coordinate (R45, R63). -/
abbrev U16 := BitVec 16

/-- The level a line is driven to: 0 or 1 (R43). -/
inductive Level where
  | low
  | high
deriving DecidableEq, Repr

end Sys2Proof
end

