-- ==== Sys2Proof/Machine/Layout.lean ====
section
/-! DEFINITION. The encoding's data in one place (R114): opcodes of the wire commands (spec/30_encoding.md R60),
the gamma masks (R64), the fixed bytes of PWCTRL1 and VDVVRHEN (R61), and how a field lies in a parameter byte (R62).
The values are the spec's general knowledge (spec/93 B1 to B7; log entry 17). -/

namespace Sys2Proof.Layout

def opSlpin : Byte := 0x10
def opSlpout : Byte := 0x11
def opInvon : Byte := 0x21
def opDispoff : Byte := 0x28
def opDispon : Byte := 0x29
def opCaset : Byte := 0x2A
def opRaset : Byte := 0x2B
def opRamwr : Byte := 0x2C
def opMadctl : Byte := 0x36
def opColmod : Byte := 0x3A
def opPorctrl : Byte := 0xB2
def opGctrl : Byte := 0xB7
def opVcoms : Byte := 0xBB
def opLcmctrl : Byte := 0xC0
def opVdvvrhen : Byte := 0xC2
def opVrhs : Byte := 0xC3
def opVdvs : Byte := 0xC4
def opFrctrl2 : Byte := 0xC6
def opPwctrl1 : Byte := 0xD0
def opPvgamctrl : Byte := 0xE0
def opNvgamctrl : Byte := 0xE1

/-- The 21 opcodes of R60, in the table's order. -/
def wireOpcodes : List Byte :=
  [opSlpin, opSlpout, opInvon, opDispoff, opDispon, opCaset, opRaset, opRamwr, opMadctl, opColmod, opPorctrl] ++
  [opGctrl, opVcoms, opLcmctrl, opVdvvrhen, opVrhs, opVdvs, opFrctrl2, opPwctrl1, opPvgamctrl, opNvgamctrl]

/-- The fixed first parameter byte of PWCTRL1 (R61, R143). -/
def pwctrl1Fixed : Byte := 0xA4

/-- The fixed second parameter byte of VDVVRHEN, when it is sent (R61, D21). -/
def vdvvrhenFixed : Byte := 0xFF

/-- VDVVRHEN's parameter bytes after the first: the fixed byte, or none (R13, R61). -/
def vdvvrhenTrailer (sent : Bool) : List Byte := if sent then [vdvvrhenFixed] else []

/-- The gamma masks `M[1]` .. `M[14]` of R64, as numbers, in order. -/
def gammaMasks : List Nat :=
  [0xFF, 0x3F, 0x3F, 0x1F, 0x1F, 0x3F, 0x7F, 0x77, 0x7F, 0x3F, 0x1F, 0x1F, 0x3F, 0x3F]

/-- A coefficient has no bit outside its mask: `c & ~M = 0` (R64), said as `c & M = c` (log entry 20). -/
def withinMask (m c : Nat) : Bool := c &&& m == c

/-- A field at least significant bit position `lsb` of a parameter byte (R62: `f << lsb(f)`). -/
def place (lsb : Nat) {w : Nat} (f : BitVec w) : Byte := f.setWidth 8 <<< lsb

/-- The field of width `w` at bit `lsb` of a parameter byte. -/
def field (lsb w : Nat) (b : Byte) : BitVec w := b.extractLsb' lsb w

/-- `hi8(v) = v[15:8]` (R16). -/
def hi8 (v : U16) : Byte := v.extractLsb' 8 8

/-- `lo8(v) = v[7:0]` (R16). -/
def lo8 (v : U16) : Byte := v.extractLsb' 0 8

/-- A coordinate from its two bytes, high byte first (R45, R63). -/
def coord (hi lo : Byte) : U16 := hi ++ lo

end Sys2Proof.Layout
end

