-- ==== Sys2Proof/Syntax.lean ====
section
/-! DEFINITION. The instructions: the eleven host requests of spec/30_encoding.md R57 with their operands (R58), the
reserved headers (R65), and the 21 wire commands of R60 with the fields of R61; the bring-up record of
spec/45_bringup.md R130; and the items a program is made of (R55: two encodings). -/

namespace Sys2Proof

/-- The 14 coefficients of one gamma curve (R15, R130). -/
structure Curve (α : Type) where
  c1 : α
  c2 : α
  c3 : α
  c4 : α
  c5 : α
  c6 : α
  c7 : α
  c8 : α
  c9 : α
  c10 : α
  c11 : α
  c12 : α
  c13 : α
  c14 : α
deriving DecidableEq, Repr

/-- The coefficients in order, 1 to 14. -/
def Curve.toList {α : Type} (c : Curve α) : List α :=
  [c.c1, c.c2, c.c3, c.c4, c.c5, c.c6, c.c7, c.c8, c.c9, c.c10, c.c11, c.c12, c.c13, c.c14]

/-- The curve whose coefficients are `f` of these. -/
def Curve.map {α β : Type} (f : α → β) (c : Curve α) : Curve β :=
  ⟨f c.c1, f c.c2, f c.c3, f c.c4, f c.c5, f c.c6, f c.c7, f c.c8, f c.c9, f c.c10, f c.c11, f c.c12, f c.c13, f c.c14⟩

/-- The curve with every coefficient `a`. -/
def Curve.const {α : Type} (a : α) : Curve α := ⟨a, a, a, a, a, a, a, a, a, a, a, a, a, a⟩

/-- Group `madctl` of R130. -/
structure MadctlCfg where
  my : Int
  mx : Int
  mv : Int
  ml : Int
  rgb : Int
  mh : Int
deriving DecidableEq, Repr

/-- Group `colmod` of R130. -/
structure ColmodCfg where
  rgbIf : Int
  ctrlIf : Int
deriving DecidableEq, Repr

/-- Group `porch` of R130. -/
structure PorchCfg where
  bpa : Int
  fpa : Int
  psen : Int
  bpb : Int
  fpb : Int
  bpc : Int
  fpc : Int
deriving DecidableEq, Repr

/-- Group `gate` of R130. -/
structure GateCfg where
  vghs : Int
  vgls : Int
deriving DecidableEq, Repr

/-- Group `lcm` of R130. -/
structure LcmCfg where
  xmy : Int
  xbgr : Int
  xinv : Int
  xmx : Int
  xmh : Int
  xmv : Int
  xgs : Int
deriving DecidableEq, Repr

/-- Group `frctrl` of R130. -/
structure FrctrlCfg where
  nla : Int
  rtna : Int
deriving DecidableEq, Repr

/-- Group `power` of R130. -/
structure PowerCfg where
  avdd : Int
  avcl : Int
  vds : Int
deriving DecidableEq, Repr

/-- INIT's configuration record: 61 unbounded integer fields in 13 groups (R58, R130). The groups of one field
(`vcom.vcoms`, `vdvvrh.cmden`, `vrh.vrhs`, `vdv.vdvs`) are that field. -/
structure Cfg where
  madctl : MadctlCfg
  colmod : ColmodCfg
  porch : PorchCfg
  gate : GateCfg
  vcoms : Int
  lcm : LcmCfg
  cmden : Int
  vrhs : Int
  vdvs : Int
  frctrl : FrctrlCfg
  power : PowerCfg
  pgamma : Curve Int
  ngamma : Curve Int
deriving DecidableEq, Repr

/-- One constructor per row of spec/opcode_table.json. -/
inductive Instr where
  /-- INIT (R131). -/
  | init (cfg : Cfg)
  /-- MAKE_FRAME_BUFFER (R90). -/
  | makeFrameBuffer
  /-- SHOW (R93); `buf` is the host byte region's contents (R41, R54). -/
  | showFrame (buf : List Byte)
  /-- SLEEP (R100). -/
  | sleep
  /-- WAKE (R101). -/
  | wake
  /-- DIM (R102); `b` is absent or the bits of a binary64 (R58). -/
  | dim (b : Option (BitVec 64))
  /-- SEND_COMMAND (R111). -/
  | sendCommand (opcode : Int) (data : Option (List Byte))
  /-- SET_WINDOW (R122). -/
  | setWindow (xs xe ys ye : Int)
  /-- COLOR_SPACE (R80). -/
  | colorSpace
  /-- PACK_COLOR (R81). -/
  | packColor (r g b : Int)
  /-- PACK_RGB565 (R82). -/
  | packRgb565 (r g b : Int)
  /-- RESERVED, header 0x0B (R65). -/
  | reservedB
  /-- RESERVED, headers 0x0C..0x0F; `lo` is the header's two low bits (R65). -/
  | reservedCToF (lo : BitVec 2)
  /-- RESERVED_RSV, a header whose RSV nibble is not zero (R65). -/
  | reservedRsv (rsv op : BitVec 4)
  /-- SLPIN (R104). -/
  | slpin
  /-- SLPOUT (R147). -/
  | slpout
  /-- INVON (R146). -/
  | invon
  /-- DISPOFF (R103). -/
  | dispoff
  /-- DISPON (R148). -/
  | dispon
  /-- CASET (R123). -/
  | caset (xs xe : U16)
  /-- RASET (R124). -/
  | raset (ys ye : U16)
  /-- RAMWR (R91); the pixel bytes, none when empty. -/
  | ramwr (pixels : List Byte)
  /-- MADCTL (R133). -/
  | madctl (my mx mv ml rgb mh : BitVec 1)
  /-- COLMOD (R134). -/
  | colmod (rgbIf ctrlIf : BitVec 3)
  /-- PORCTRL (R135). -/
  | porctrl (bpa fpa : BitVec 7) (psen : BitVec 1) (bpb fpb bpc fpc : BitVec 4)
  /-- GCTRL (R136). -/
  | gctrl (vghs vgls : BitVec 3)
  /-- VCOMS (R137). -/
  | vcoms (v : BitVec 6)
  /-- LCMCTRL (R138). -/
  | lcmctrl (xmy xbgr xinv xmx xmh xmv xgs : BitVec 1)
  /-- VDVVRHEN (R139); `trailer` says which of its two lengths (R13, R60) it has: with the fixed second byte of R61, or
  without. DESIGN CHOICE: log entry 8. -/
  | vdvvrhen (cmden : BitVec 1) (trailer : Bool)
  /-- VRHS (R140). -/
  | vrhs (v : BitVec 6)
  /-- VDVS (R141). -/
  | vdvs (v : BitVec 6)
  /-- FRCTRL2 (R142). -/
  | frctrl2 (nla : BitVec 3) (rtna : BitVec 5)
  /-- PWCTRL1 (R143). -/
  | pwctrl1 (avdd avcl vds : BitVec 2)
  /-- PVGAMCTRL (R144). -/
  | pvgamctrl (curve : Curve Byte)
  /-- NVGAMCTRL (R145). -/
  | nvgamctrl (curve : Curve Byte)
deriving DecidableEq, Repr

/-- A typed operand of a host request (R56, R58): operands are values, not bytes. -/
inductive Operand where
  | int (v : Int)
  | region (bytes : List Byte)
  | binary64 (bits : BitVec 64)
  | absent
  | record (cfg : Cfg)
deriving DecidableEq, Repr

/-- One item of a program. `request` is a host request: a header byte followed by its operands (R56). `wire` is one
wire command handed to the command/data sequencer by itself: an opcode byte and its parameter bytes (R59). The host
issues `request` items only; `wire` items are the model's way to run a wire row alone (log entry 11). -/
inductive Item where
  | request (header : Byte) (operands : List Operand)
  | wire (opcode : Byte) (params : List Byte)
deriving DecidableEq, Repr

/-- Why an item spells no instruction. -/
inductive DecodeError where
  /-- The operands of a request are not of the number and types of R57 (log entry 9). -/
  | operandShape (header : Byte)
  /-- The opcode of a wire item is none of the 21 of R60 (log entry 12). -/
  | unknownOpcode (opcode : Byte)
  /-- A wire command with another number of parameter bytes than R60 gives it (log entry 12). -/
  | parameterCount (opcode : Byte)
  /-- A reserved bit of a parameter byte is not 0 (R61; log entry 12). -/
  | reservedBits (opcode : Byte)
  /-- The fixed byte of PWCTRL1 is not 0xA4, or VDVVRHEN's is not 0xFF (R61, D21; log entry 12). -/
  | fixedByte (opcode : Byte)
  /-- A gamma byte has a bit outside its mask (R64; log entry 12). -/
  | gammaMask (opcode : Byte)
deriving DecidableEq, Repr

end Sys2Proof
end

