-- ==== Sys2Proof/WellFormed.lean ====
section
/-! DEFINITION. Which instructions are well-formed: those the encodings of spec/30_encoding.md can spell. An
operand of a host request is never ill-formed: its range check is the request's own (R58, D25, D34, D36). -/

namespace Sys2Proof

/-- Every byte of a gamma curve lies within its mask (R64). -/
def gammaWithin (c : Curve Byte) : Bool :=
  (c.toList.zip Layout.gammaMasks).all fun p => Layout.withinMask p.2 p.1.toNat

/-- A reserved-RSV header has a non-zero RSV nibble (R65); gamma bytes lie within their masks (R64). -/
def Instr.wf : Instr → Bool
  | .reservedRsv rsv _ => rsv != 0
  | .pvgamctrl c => gammaWithin c
  | .nvgamctrl c => gammaWithin c
  | .init _ | .makeFrameBuffer | .showFrame _ | .sleep | .wake | .dim _ | .sendCommand _ _ | .setWindow _ _ _ _
  | .colorSpace | .packColor _ _ _ | .packRgb565 _ _ _ | .reservedB | .reservedCToF _
  | .slpin | .slpout | .invon | .dispoff | .dispon | .caset _ _ | .raset _ _ | .ramwr _
  | .madctl _ _ _ _ _ _ | .colmod _ _ | .porctrl _ _ _ _ _ _ _ | .gctrl _ _ | .vcoms _ | .lcmctrl _ _ _ _ _ _ _
  | .vdvvrhen _ _ | .vrhs _ | .vdvs _ | .frctrl2 _ _ | .pwctrl1 _ _ _ => true

end Sys2Proof
end

