-- ==== Sys2Proof/Decode.lean ====
section
/-! DEFINITION. Decoding a program's item, total, rejecting by name; then the encoder, written from the same tables
(spec/30_encoding.md R56 to R65). -/

namespace Sys2Proof

open Layout

/-! ### Host requests (R56, R57, R65) -/

/-- RSV, bits 7:4 of a header (R56). -/
def headerRsv (h : Byte) : BitVec 4 := h.extractLsb' 4 4

/-- OP, bits 3:0 of a header (R56). -/
def headerOp (h : Byte) : BitVec 4 := h.extractLsb' 0 4

/-- A host request. The header is decoded before the operands (R177), so a reserved header is a reserved request
whatever operands travel with it (log entry 24). -/
def decodeRequest (h : Byte) (ops : List Operand) : Except DecodeError Instr :=
  if headerRsv h != 0 then .ok (.reservedRsv (headerRsv h) (headerOp h))
  else match (headerOp h).toNat, ops with
    | 0x0, [.record cfg] => .ok (.init cfg)
    | 0x1, [] => .ok .makeFrameBuffer
    | 0x2, [.region buf] => .ok (.showFrame buf)
    | 0x3, [] => .ok .sleep
    | 0x4, [] => .ok .wake
    | 0x5, [.absent] => .ok (.dim none)
    | 0x5, [.binary64 b] => .ok (.dim (some b))
    | 0x6, [.int opcode, .absent] => .ok (.sendCommand opcode none)
    | 0x6, [.int opcode, .region data] => .ok (.sendCommand opcode (some data))
    | 0x7, [.int xs, .int xe, .int ys, .int ye] => .ok (.setWindow xs xe ys ye)
    | 0x8, [] => .ok .colorSpace
    | 0x9, [.int r, .int g, .int b] => .ok (.packColor r g b)
    | 0xA, [.int r, .int g, .int b] => .ok (.packRgb565 r g b)
    | 0xB, _ => .ok .reservedB
    | 0xC, _ => .ok (.reservedCToF 0)
    | 0xD, _ => .ok (.reservedCToF 1)
    | 0xE, _ => .ok (.reservedCToF 2)
    | 0xF, _ => .ok (.reservedCToF 3)
    | _, _ => .error (.operandShape h)

/-! ### Wire commands (R59 to R64) -/

/-- A wire command without parameters. -/
def noParams (op : Byte) (ps : List Byte) (i : Instr) : Except DecodeError Instr :=
  match ps with
  | [] => .ok i
  | _ => .error (.parameterCount op)

/-- A wire command of one parameter byte whose bits in `reserved` are sent as 0 (R61). -/
def oneParam (op : Byte) (ps : List Byte) (reserved : Byte) (k : Byte → Instr) : Except DecodeError Instr :=
  match ps with
  | [b] => if b &&& reserved = 0 then .ok (k b) else .error (.reservedBits op)
  | _ => .error (.parameterCount op)

/-- A wire command of two coordinates, each high byte first (R63). DESIGN CHOICE: any two 16-bit coordinates are taken,
those R42, R63 and R120 keep the block's own requests from assembling among them (log entry 27). -/
def coordParams (op : Byte) (ps : List Byte) (k : U16 → U16 → Instr) : Except DecodeError Instr :=
  match ps with
  | [sh, sl, eh, el] => .ok (k (coord sh sl) (coord eh el))
  | _ => .error (.parameterCount op)

/-- A gamma command: 14 bytes, each within its mask (R64, R144, R145). -/
def gammaParams (op : Byte) (ps : List Byte) (k : Curve Byte → Instr) : Except DecodeError Instr :=
  match ps with
  | [a, b, c, d, e, f, g, h, i, j, l, m, n, o] =>
    if gammaWithin ⟨a, b, c, d, e, f, g, h, i, j, l, m, n, o⟩ then .ok (k ⟨a, b, c, d, e, f, g, h, i, j, l, m, n, o⟩)
    else .error (.gammaMask op)
  | _ => .error (.parameterCount op)

/-- PORCTRL's five bytes (R61, R135). -/
def porchParams (op : Byte) (ps : List Byte) : Except DecodeError Instr :=
  match ps with
  | [b1, b2, b3, b4, b5] =>
    if b1 &&& 0x80 = 0 ∧ b2 &&& 0x80 = 0 ∧ b3 &&& 0xFE = 0 then
      .ok (.porctrl (field 0 7 b1) (field 0 7 b2) (field 0 1 b3) (field 4 4 b4) (field 0 4 b4) (field 4 4 b5)
        (field 0 4 b5))
    else .error (.reservedBits op)
  | _ => .error (.parameterCount op)

/-- VDVVRHEN's byte, and the fixed trailer when it is sent (R13, R61, R139). Both lengths decode (log entry 8). -/
def vdvvrhenParams (op : Byte) (ps : List Byte) : Except DecodeError Instr :=
  match ps with
  | [b] => if b &&& 0xFE = 0 then .ok (.vdvvrhen (field 0 1 b) false) else .error (.reservedBits op)
  | [b, t] =>
    if t ≠ vdvvrhenFixed then .error (.fixedByte op)
    else if b &&& 0xFE = 0 then .ok (.vdvvrhen (field 0 1 b) true)
    else .error (.reservedBits op)
  | _ => .error (.parameterCount op)

/-- PWCTRL1's two bytes, the first fixed (R61, R143). -/
def pwctrl1Params (op : Byte) (ps : List Byte) : Except DecodeError Instr :=
  match ps with
  | [b1, b2] =>
    if b1 ≠ pwctrl1Fixed then .error (.fixedByte op)
    else if b2 &&& 0x0C = 0 then .ok (.pwctrl1 (field 6 2 b2) (field 4 2 b2) (field 0 2 b2))
    else .error (.reservedBits op)
  | _ => .error (.parameterCount op)

/-- A wire command from its opcode byte and its parameter bytes (R60, R61). -/
def decodeWire (op : Byte) (ps : List Byte) : Except DecodeError Instr :=
  if op = opSlpin then noParams op ps .slpin
  else if op = opSlpout then noParams op ps .slpout
  else if op = opInvon then noParams op ps .invon
  else if op = opDispoff then noParams op ps .dispoff
  else if op = opDispon then noParams op ps .dispon
  else if op = opCaset then coordParams op ps .caset
  else if op = opRaset then coordParams op ps .raset
  else if op = opRamwr then .ok (.ramwr ps)
  else if op = opMadctl then
    oneParam op ps 0x03 fun b =>
      .madctl (field 7 1 b) (field 6 1 b) (field 5 1 b) (field 4 1 b) (field 3 1 b) (field 2 1 b)
  else if op = opColmod then oneParam op ps 0x88 fun b => .colmod (field 4 3 b) (field 0 3 b)
  else if op = opPorctrl then porchParams op ps
  else if op = opGctrl then oneParam op ps 0x88 fun b => .gctrl (field 4 3 b) (field 0 3 b)
  else if op = opVcoms then oneParam op ps 0xC0 fun b => .vcoms (field 0 6 b)
  else if op = opLcmctrl then
    oneParam op ps 0x80 fun b =>
      .lcmctrl (field 6 1 b) (field 5 1 b) (field 4 1 b) (field 3 1 b) (field 2 1 b) (field 1 1 b) (field 0 1 b)
  else if op = opVdvvrhen then vdvvrhenParams op ps
  else if op = opVrhs then oneParam op ps 0xC0 fun b => .vrhs (field 0 6 b)
  else if op = opVdvs then oneParam op ps 0xC0 fun b => .vdvs (field 0 6 b)
  else if op = opFrctrl2 then oneParam op ps 0x00 fun b => .frctrl2 (field 5 3 b) (field 0 5 b)
  else if op = opPwctrl1 then pwctrl1Params op ps
  else if op = opPvgamctrl then gammaParams op ps .pvgamctrl
  else if op = opNvgamctrl then gammaParams op ps .nvgamctrl
  else .error (.unknownOpcode op)

/-- A program's item. -/
def decode : Item → Except DecodeError Instr
  | .request h ops => decodeRequest h ops
  | .wire op ps => decodeWire op ps

/-! ### The encoder -/

/-- The item that spells an instruction: for a host request its header and operands (R56, R57, R67), for a wire
command its opcode and parameter bytes, each byte the OR of its placed fields (R60 to R63). -/
def encode : Instr → Item
  | .init cfg => .request 0x00 [.record cfg]
  | .makeFrameBuffer => .request 0x01 []
  | .showFrame buf => .request 0x02 [.region buf]
  | .sleep => .request 0x03 []
  | .wake => .request 0x04 []
  | .dim none => .request 0x05 [.absent]
  | .dim (some b) => .request 0x05 [.binary64 b]
  | .sendCommand opcode none => .request 0x06 [.int opcode, .absent]
  | .sendCommand opcode (some data) => .request 0x06 [.int opcode, .region data]
  | .setWindow xs xe ys ye => .request 0x07 [.int xs, .int xe, .int ys, .int ye]
  | .colorSpace => .request 0x08 []
  | .packColor r g b => .request 0x09 [.int r, .int g, .int b]
  | .packRgb565 r g b => .request 0x0A [.int r, .int g, .int b]
  | .reservedB => .request 0x0B []
  | .reservedCToF lo => .request (0x0C ||| place 0 lo) []
  | .reservedRsv rsv op => .request (place 4 rsv ||| place 0 op) []
  | .slpin => .wire opSlpin []
  | .slpout => .wire opSlpout []
  | .invon => .wire opInvon []
  | .dispoff => .wire opDispoff []
  | .dispon => .wire opDispon []
  | .caset xs xe => .wire opCaset [hi8 xs, lo8 xs, hi8 xe, lo8 xe]
  | .raset ys ye => .wire opRaset [hi8 ys, lo8 ys, hi8 ye, lo8 ye]
  | .ramwr pixels => .wire opRamwr pixels
  | .madctl my mx mv ml rgb mh =>
    .wire opMadctl [place 7 my ||| place 6 mx ||| place 5 mv ||| place 4 ml ||| place 3 rgb ||| place 2 mh]
  | .colmod rgbIf ctrlIf => .wire opColmod [place 4 rgbIf ||| place 0 ctrlIf]
  | .porctrl bpa fpa psen bpb fpb bpc fpc =>
    .wire opPorctrl [place 0 bpa, place 0 fpa, place 0 psen, place 4 bpb ||| place 0 fpb, place 4 bpc ||| place 0 fpc]
  | .gctrl vghs vgls => .wire opGctrl [place 4 vghs ||| place 0 vgls]
  | .vcoms v => .wire opVcoms [place 0 v]
  | .lcmctrl xmy xbgr xinv xmx xmh xmv xgs =>
    .wire opLcmctrl
      [place 6 xmy ||| place 5 xbgr ||| place 4 xinv ||| place 3 xmx ||| place 2 xmh ||| place 1 xmv ||| place 0 xgs]
  | .vdvvrhen cmden trailer => .wire opVdvvrhen (place 0 cmden :: vdvvrhenTrailer trailer)
  | .vrhs v => .wire opVrhs [place 0 v]
  | .vdvs v => .wire opVdvs [place 0 v]
  | .frctrl2 nla rtna => .wire opFrctrl2 [place 5 nla ||| place 0 rtna]
  | .pwctrl1 avdd avcl vds => .wire opPwctrl1 [pwctrl1Fixed, place 6 avdd ||| place 4 avcl ||| place 0 vds]
  | .pvgamctrl curve => .wire opPvgamctrl curve.toList
  | .nvgamctrl curve => .wire opNvgamctrl curve.toList

/-! ### The opcode table's words (log entry 13) -/

/-- The bring-up record whose every field is 0. -/
def zeroCfg : Cfg :=
  ⟨⟨0, 0, 0, 0, 0, 0⟩, ⟨0, 0⟩, ⟨0, 0, 0, 0, 0, 0, 0⟩, ⟨0, 0⟩, 0, ⟨0, 0, 0, 0, 0, 0, 0⟩, 0, 0, 0, ⟨0, 0⟩, ⟨0, 0, 0⟩,
    .const 0, .const 0⟩

/-- The operands of a request header where each is zero, empty or absent. -/
def zeroOperands (h : Byte) : List Operand :=
  match (headerOp h).toNat with
  | 0x0 => [.record zeroCfg]
  | 0x2 => [.region []]
  | 0x5 => [.absent]
  | 0x6 => [.int 0, .absent]
  | 0x7 => [.int 0, .int 0, .int 0, .int 0]
  | 0x9 => [.int 0, .int 0, .int 0]
  | 0xA => [.int 0, .int 0, .int 0]
  | _ => []

/-- How many parameter bytes R60 gives an opcode (RAMWR: none when empty; VDVVRHEN: without a trailer). -/
def paramCount (op : Byte) : Nat :=
  if op = opCaset ∨ op = opRaset then 4
  else if op = opPorctrl then 5
  else if op = opPwctrl1 then 2
  else if op = opPvgamctrl ∨ op = opNvgamctrl then 14
  else if op = opSlpin ∨ op = opSlpout ∨ op = opInvon ∨ op = opDispoff ∨ op = opDispon ∨ op = opRamwr then 0
  else 1

/-- `n` bytes of `w`, the least significant first. -/
def wordBytes : Nat → Nat → List Byte
  | 0, _ => []
  | n + 1, w => BitVec.ofNat 8 w :: wordBytes n (w / 256)

/-- The parameter bytes a table word gives an opcode: the word's own bytes, zeros above, and the fixed byte of PWCTRL1
(which is no operand) where the word does not reach it. -/
def tableParams (op : Byte) (nbits w : Nat) : List Byte :=
  let bytes := wordBytes (max (paramCount op) (nbits / 8 - 1)) w
  if op = opPwctrl1 ∧ nbits ≤ 8 then pwctrl1Fixed :: bytes.drop 1 else bytes

/-- The item a table word stands for: bit 0 the least significant bit of the first byte. A byte of R60's opcodes is a
wire command, any other a request header; the two sets of the table's rows do not meet (log entry 13). -/
def tableItem (nbits w : Nat) : Item :=
  let v := w % 2 ^ nbits
  let b := BitVec.ofNat 8 v
  if wireOpcodes.contains b then .wire b (tableParams b nbits (v / 256)) else .request b (zeroOperands b)

/-- What the decoder reads from a word of spec/opcode_table.json. -/
def decodeTableWord (nbits w : Nat) : Option Instr :=
  match decode (tableItem nbits w) with
  | .ok i => some i
  | .error _ => none

end Sys2Proof
end

