-- ==== Sys2Proof/Config.lean ====
section
/-! DEFINITION. What is fixed for the machine (spec/00_scope.md R7 to R13), and the free values: the parameters the
spec leaves open and the transport's answers. An opaque constant has no value in any proof, so what is proved
holds for every value of it. -/

namespace Sys2Proof

/-- The transport's answer to one call (spec/20_memory.md R44): it completes, it fails, or it never returns.
`reached` is how many of the bytes of a `SpiWrite` reached the panel before the call failed or stuck (R48: every
prefix is admitted; a number past the end stands for all of them); calls other than `SpiWrite` ignore it.
Log entries 2 and 3. -/
inductive Answer where
  | completes
  | fails (reached : Nat)
  | never (reached : Nat)
deriving DecidableEq, Repr, Inhabited

namespace Config

/-- PANEL_WIDTH, in pixels (R7). -/
def panelWidth : Nat := 240

/-- PANEL_HEIGHT, in pixels (R7). -/
def panelHeight : Nat := 240

/-- WINDOW_LIMIT, the exclusive upper bound of a window's end coordinate (R10). -/
def windowLimit : Nat := 0x013F

/-- OPCODE_MAX (R11). -/
def opcodeMax : Nat := 0xFF

/-- DUTY_MAX (R9). -/
def dutyMax : Nat := 65535

/-- D0, the duty INIT stores: named by the source, never given (R12, D9). A free value: log entry 7. -/
opaque d0 : U16

/-- C2_TRAILER is `[0xFF]`, not the empty list (R13): D21 leaves open which of the two, and nothing else. A free value:
log entry 8. -/
opaque c2TrailerSent : Bool

/-- The transport's answer to the call made when `n` calls have ended since power-on, where the state lists no
answer (R44: the outcome is the transport's choice, a free input). A free value: log entry 2. -/
opaque freeAnswer (n : Nat) : Answer

end Config
end Sys2Proof
end

