-- ==== Sys2Proof/Machine/State.lean ====
section
/-! DEFINITION. The state (spec/10_state.md R20 to R28), transport events (spec/20_memory.md R43), request outcomes
(spec/60_exceptions.md R170), the model's faults and refusals, and the state at power-on (spec/70 R190). -/

namespace Sys2Proof.Machine

/-- MODE (R21). `0b11` is never held, so it has no name. -/
inductive Mode where
  | uninitialized
  | awake
  | asleep
deriving DecidableEq, Repr

/-- The one colour space (R22, D31). -/
inductive ColorSpace where
  | rgb565
deriving DecidableEq, Repr

/-- A register that holds no value at power-on until INIT writes it: the spec's own state for CSPACE and DUTY
(R22, R23, R33, R190, D4; log entry 10). -/
inductive Held (α : Type) where
  | noValue
  | value (a : α)
deriving DecidableEq, Repr

/-- A line-level register: the level last driven, or Unknown (R24). -/
inductive Line where
  | unknown
  | driven (l : Level)
deriving DecidableEq, Repr

/-- The PWM register: the duty last applied, or Unknown (R25). -/
inductive Pwm where
  | unknown
  | duty (d : U16)
deriving DecidableEq, Repr

/-- A transport event (R43). The bytes of a `spiWrite` are not empty. -/
inductive Event where
  | setCS (l : Level)
  | setDC (l : Level)
  | setRST (l : Level)
  | spiWrite (bs : List Byte)
  | pwmDuty (d : U16)
deriving DecidableEq, Repr

/-- A trace entry (R26, R44). -/
inductive Entry where
  | ok (e : Event)
  | failed (e : Event)
deriving DecidableEq, Repr

/-- The fields of the bring-up record, by the names of R130. -/
inductive CfgField where
  | my | mx | mv | ml | rgb | mh
  | rgbIf | ctrlIf
  | bpa | fpa | psen | bpb | fpb | bpc | fpc
  | vghs | vgls
  | vcoms
  | xmy | xbgr | xinv | xmx | xmh | xmv | xgs
  | cmden
  | vrhs
  | vdvs
  | nla | rtna
  | avdd | avcl | vds
  | pgam (k : Nat)
  | ngam (k : Nat)
deriving DecidableEq, Repr

/-- The name an InvalidArgument carries (R171). -/
inductive ArgName where
  | red
  | green
  | blue
  | brightness
  | opcode
  | column
  | row
  | cfg (f : CfgField)
deriving DecidableEq, Repr

/-- The valid range an InvalidArgument carries (R171). `bits w` is `0..(2^w - 1)`, `maskBits k` is `bits of M[k]`. -/
inductive ValidRange where
  | bits (w : Nat)
  | unitInterval
  | windowPair
  | maskBits (k : Nat)
deriving DecidableEq, Repr

/-- The pixel buffer MAKE_FRAME_BUFFER returns (R90). -/
structure PixelBuffer where
  width : Nat
  height : Nat
  format : ColorSpace
  stride : Nat
  bytes : List Byte
deriving DecidableEq, Repr

/-- The result value of an `Ok` outcome (R170): none, or what R80 to R82 and R90 return. -/
inductive Value where
  | none
  | colorSpace (c : ColorSpace)
  | color24 (v : BitVec 24)
  | pixel16 (v : BitVec 16)
  | frameBuffer (b : PixelBuffer)
deriving DecidableEq, Repr

/-- The outcome of a request that ended, as the host receives it (R170). -/
inductive Reply where
  | ok (v : Value)
  | invalidArgument (name : ArgName) (range : ValidRange)
  | invalidState
  | transportError (e : Event)
  | refused (header : Byte)
deriving DecidableEq, Repr

/-- A register that can be without a value (R33). -/
inductive ValuelessRegister where
  | cspace
  | duty
deriving DecidableEq, Repr

/-- How the model stops with a fault. -/
inductive Fault where
  /-- Raised by a request that reads CSPACE or DUTY while it holds no value: COLOR_SPACE, MAKE_FRAME_BUFFER, WAKE and
  DIM without an operand. R33 and A14 say that a model that finds such a read must fault. Not reachable from reset.
  Safe: the machine stops where the spec gives no value. -/
  | noValue (r : ValuelessRegister)
deriving DecidableEq, Repr

/-- Why the model gives no meaning. -/
inductive Refusal where
  /-- Raised by an arm of `exec` for an instruction not modelled yet; no arm does. Safe: nothing is claimed of it. -/
  | notModelled (mnemonic : String)
  /-- Raised by the step for an item that spells no instruction: operands of a request not of R57's types, or wire
  bytes outside R60 and R61. Safe: nothing is claimed of a run that issues one (log entries 9 and 12). -/
  | undecodable (e : DecodeError)
deriving DecidableEq, Repr

/-- The state of the block (R20), and the model's own fields: the host's request list and record of outcomes, the
transport's coming answers, the call that never returned, and the bytes that reached the panel. -/
structure State where
  /-- MODE (R21). -/
  mode : Mode
  /-- CSPACE (R22). -/
  cspace : Held ColorSpace
  /-- DUTY (R23). -/
  duty : Held U16
  /-- CS (R24). -/
  cs : Line
  /-- DC (R24). -/
  dc : Line
  /-- RST (R24). -/
  rst : Line
  /-- PWM (R25). -/
  pwm : Pwm
  /-- TRACE, oldest first (R26). -/
  trace : List Entry
  /-- pc, the index of the next request (R27). -/
  pc : Nat
  /-- SEQ, the calls the request has made that ended (R28; log entry 14). -/
  seq : Nat
  /-- REQS, the host's requests (R207; log entry 6). -/
  reqs : List Item
  /-- OUTCOMES, the host's record, oldest first (R208; log entry 5). -/
  outcomes : List Reply
  /-- The transport's coming answers, next first (R44; log entry 2). -/
  answers : List Answer
  /-- The call that never returned, when one did not (R44, R176; log entry 4). -/
  hung : Option Event
  /-- The bytes that reached the panel on the serial bus, oldest first (R48; log entry 3). -/
  onBus : List Byte
deriving DecidableEq, Repr

/-- The state at block power-on (R190), no request issued yet. -/
def State.reset : State where
  mode := .uninitialized
  cspace := .noValue
  duty := .noValue
  cs := .unknown
  dc := .unknown
  rst := .unknown
  pwm := .unknown
  trace := []
  pc := 0
  seq := 0
  reqs := []
  outcomes := []
  answers := []
  hung := none
  onBus := []

end Sys2Proof.Machine
end

