-- ==== Sys2Proof/Machine/Ops.lean ====
section
/-! DEFINITION. The operations every meaning is made of: a transport call (spec/20_memory.md R44), the SendCmd
primitive (spec/43_wire_protocol.md R110), and the issue of a request: its start, its end with an outcome, its hang
(spec/10_state.md R27, R28; spec/60_exceptions.md R176, R178). -/

namespace Sys2Proof.Machine

/-! ### One transport call -/

/-- The transport's answer to the next call: the next of the answers the state lists, else a free value (R44). -/
def State.answer (s : State) : Answer :=
  match s.answers with
  | a :: _ => a
  | [] => Config.freeAnswer s.trace.length

/-- A call that ended: its entry is appended to TRACE and counted in SEQ, its answer is used up (R26, R28). -/
def State.record (x : Entry) (s : State) : State :=
  { s with trace := s.trace ++ [x], seq := s.seq + 1, answers := s.answers.tail }

/-- The line or PWM level a completed call drives (R24, R25); a completed `SpiWrite` delivers all its bytes (R48). -/
def State.drive (e : Event) (s : State) : State :=
  match e with
  | .setCS l => { s with cs := .driven l }
  | .setDC l => { s with dc := .driven l }
  | .setRST l => { s with rst := .driven l }
  | .spiWrite bs => { s with onBus := s.onBus ++ bs }
  | .pwmDuty d => { s with pwm := .duty d }

/-- What a failed call leaves: its line or PWM level Unknown (R24, R25), and `reached` bytes of a `SpiWrite`
delivered (R48). -/
def State.spoil (e : Event) (reached : Nat) (s : State) : State :=
  match e with
  | .setCS _ => { s with cs := .unknown }
  | .setDC _ => { s with dc := .unknown }
  | .setRST _ => { s with rst := .unknown }
  | .spiWrite bs => { s with onBus := s.onBus ++ bs.take reached }
  | .pwmDuty _ => { s with pwm := .unknown }

/-- What a call that never returns leaves: no entry and no level, only the bytes of a `SpiWrite` delivered so far
(R44(c), R48). -/
def State.stall (e : Event) (reached : Nat) (s : State) : State :=
  match e with
  | .spiWrite bs => { s with onBus := s.onBus ++ bs.take reached }
  | .setCS _ | .setDC _ | .setRST _ | .pwmDuty _ => s

/-- A call that completed (R44(a)). -/
def State.completed (e : Event) (s : State) : State := (s.record (.ok e)).drive e

/-- A call that failed (R44(b)). -/
def State.failed (e : Event) (reached : Nat) (s : State) : State := (s.record (.failed e)).spoil e reached

/-- These calls, each completed, in order. -/
def State.performed (es : List Event) (s : State) : State :=
  match es with
  | [] => s
  | e :: es => State.performed es (s.completed e)

/-! ### A request in progress -/

/-- A request in progress: it goes on, it has ended with an outcome, one of its calls never returns, or it has made
a read that R33 forbids. -/
inductive Run where
  | going (s : State)
  | ended (o : Reply) (s : State)
  | stuck (e : Event) (s : State)
  | fault (r : Fault)
deriving DecidableEq, Repr

/-- Then the next part of the request, if it still goes on. -/
def Run.andThen (r : Run) (k : State → Run) : Run :=
  match r with
  | .going s => k s
  | .ended o s => .ended o s
  | .stuck e s => .stuck e s
  | .fault f => .fault f

/-- `Emit(e)` (R17, R44). -/
def emit (e : Event) (s : State) : Run :=
  match s.answer with
  | .completes => .going (s.completed e)
  | .fails n => .ended (.transportError e) (s.failed e n)
  | .never n => .stuck e (s.stall e n)

/-- `Emit` of these events, in order, each after the one before has completed (R51). -/
def emitAll (es : List Event) (s : State) : Run :=
  match es with
  | [] => .going s
  | e :: es => (emit e s).andThen (emitAll es)

/-- A CS-low bracket with the DC level `dc` set before it (R59, R110). -/
def phase (dc : Level) (bs : List Byte) : List Event :=
  [.setCS .high, .setDC dc, .setCS .low, .spiWrite bs, .setCS .high]

/-- The events of `SendCmd(op, data)`: a command phase, and a data phase when `data` is present and not empty
(R110, D10). -/
def cmdEvents (op : Byte) (data : Option (List Byte)) : List Event :=
  match data with
  | none => phase .low [op]
  | some [] => phase .low [op]
  | some (b :: bs) => phase .low [op] ++ phase .high (b :: bs)

/-- The events of a wire command, its opcode and parameters as the encoder gives them (R60, R61). A host request is no
wire command (R55). -/
def wireEvents (i : Instr) : List Event :=
  match encode i with
  | .wire op ps => cmdEvents op (some ps)
  | .request _ _ => []

/-- `SendCmd(op, data)` (R110). -/
def sendCmd (op : Byte) (data : Option (List Byte)) (s : State) : Run := emitAll (cmdEvents op data) s

/-- The wire command `i`, sent (R59, R110). -/
def sendWire (i : Instr) (s : State) : Run := emitAll (wireEvents i) s

/-! ### The issue of a request -/

/-- A request has ended with the outcome `o`: the host receives it and pc advances by 1 (R27, R178). -/
def State.close (o : Reply) (s : State) : State :=
  { s with outcomes := s.outcomes ++ [o], pc := s.pc + 1 }

/-- What a request leaves: falling off its end is `Ok()` (R17); a call that never returns leaves it without an
outcome and pc where it was (R27, R176). -/
def Run.finish (r : Run) : Host.Outcome State Fault Refusal :=
  match r with
  | .going s => .next (s.close (.ok .none))
  | .ended o s => .next (s.close o)
  | .stuck e s => .next { s with hung := some e }
  | .fault f => .fault f

/-- SEQ at the start of a request (R28). -/
def State.start (s : State) : State := { s with seq := 0 }

/-- A request whose pseudocode is `body`, from its issue to its end. While an earlier request hangs, none begins
(R51, R176). -/
def serve (body : State → Run) (s : State) : Host.Outcome State Fault Refusal :=
  match s.hung with
  | some _ => .next s
  | none => (body s.start).finish

/-- The host's next item, if it has one (R27, R207). -/
def State.fetch (s : State) : Option Item := s.reqs[s.pc]?

end Sys2Proof.Machine
end

