-- ==== Sys2Proof/Machine/Flags.lean ====
section
/-! DEFINITION. The block has no condition flags; MODE is its only status (spec/10_state.md R30). This file holds its
encoding (R21), CSPACE's (R22), and the setup check (spec/60_exceptions.md R174). -/

namespace Sys2Proof.Machine

/-- MODE's encoding (R21). -/
def Mode.bits : Mode → BitVec 2
  | .uninitialized => 0b00
  | .awake => 0b01
  | .asleep => 0b10

/-- CSPACE's encoding (R22). -/
def ColorSpace.bits : ColorSpace → BitVec 1
  | .rgb565 => 0

/-- A line level's number (R24). -/
def levelBit : Level → BitVec 1
  | .low => 0
  | .high => 1

/-- `if MODE = Uninitialized then raise InvalidState()`, then the rest of the request (R174). -/
def setUp (k : State → Run) (s : State) : Run :=
  match s.mode with
  | .uninitialized => .ended .invalidState s
  | .awake => k s
  | .asleep => k s

/-- MODE is written where the pseudocode writes it (R21, D13). -/
def State.setMode (m : Mode) (s : State) : State := { s with mode := m }

end Sys2Proof.Machine
end

