-- ==== Sys2Proof/Machine/Operands.lean ====
section
/-! DEFINITION. Operands: the field check and its table (spec/43_wire_protocol.md R113, R114; spec/45_bringup.md
R130, R149), window pairs (spec/44 R120), host byte regions (spec/20_memory.md R41), registers that may hold no value
(R33), colours (spec/40), and the duty of a binary64 (spec/42 R102, R105). -/

namespace Sys2Proof.Machine

/-! ### Names and ranges as text (R26 decision D26, R130, R171) -/

/-- A configuration field's name, `group.field` (R130). -/
def CfgField.text : CfgField → String
  | .my => "madctl.my" | .mx => "madctl.mx" | .mv => "madctl.mv"
  | .ml => "madctl.ml" | .rgb => "madctl.rgb" | .mh => "madctl.mh"
  | .rgbIf => "colmod.rgb_if" | .ctrlIf => "colmod.ctrl_if"
  | .bpa => "porch.bpa" | .fpa => "porch.fpa" | .psen => "porch.psen" | .bpb => "porch.bpb"
  | .fpb => "porch.fpb" | .bpc => "porch.bpc" | .fpc => "porch.fpc"
  | .vghs => "gate.vghs" | .vgls => "gate.vgls"
  | .vcoms => "vcom.vcoms"
  | .xmy => "lcm.xmy" | .xbgr => "lcm.xbgr" | .xinv => "lcm.xinv" | .xmx => "lcm.xmx"
  | .xmh => "lcm.xmh" | .xmv => "lcm.xmv" | .xgs => "lcm.xgs"
  | .cmden => "vdvvrh.cmden"
  | .vrhs => "vrh.vrhs"
  | .vdvs => "vdv.vdvs"
  | .nla => "frctrl.nla" | .rtna => "frctrl.rtna"
  | .avdd => "power.avdd" | .avcl => "power.avcl" | .vds => "power.vds"
  | .pgam k => "pgamma.pgam[" ++ toString k ++ "]"
  | .ngam k => "ngamma.ngam[" ++ toString k ++ "]"

/-- The name an InvalidArgument reads (R171). -/
def ArgName.text : ArgName → String
  | .red => "red"
  | .green => "green"
  | .blue => "blue"
  | .brightness => "brightness"
  | .opcode => "opcode"
  | .column => "column"
  | .row => "row"
  | .cfg f => f.text

/-- The range an InvalidArgument reads (R171). -/
def ValidRange.text : ValidRange → String
  | .bits w => "0.." ++ toString (2 ^ w - 1)
  | .unitInterval => "[0, 1]"
  | .windowPair => "0 <= start < end < 0x013F"
  | .maskBits k => "bits of M[" ++ toString k ++ "]"

/-- The code of an outcome (R170). -/
def Reply.code : Reply → Nat
  | .ok _ => 0
  | .invalidArgument _ _ => 1
  | .invalidState => 2
  | .transportError _ => 3
  | .refused _ => 4

/-! ### The field check (R113, R114) -/

/-- One row of a field table: the field's name, what is legal, and its value. -/
structure FieldCheck where
  name : ArgName
  range : ValidRange
  value : Int
deriving DecidableEq, Repr

/-- `0 <= v <= 2^w - 1` (R113). -/
def fitsBits (w : Nat) (v : Int) : Bool := decide (0 ≤ v ∧ v ≤ 2 ^ w - 1)

/-- A gamma coefficient of mask number `k`, from 1: `0 <= c` and `c & ~M[k] = 0` (R64). -/
def fitsMask (k : Nat) (v : Int) : Bool :=
  decide (0 ≤ v) && Layout.withinMask (Layout.gammaMasks.getD (k - 1) 0) v.toNat

/-- The row's value is legal: a width (R113) or a mask (R64). The other two ranges are no field's. -/
def FieldCheck.legal (c : FieldCheck) : Bool :=
  match c.range with
  | .bits w => fitsBits w c.value
  | .maskBits k => fitsMask k c.value
  | .unitInterval | .windowPair => true

/-- The error of the first row that is not legal, in the table's order (R149, R177). -/
def firstIllegal (cs : List FieldCheck) : Option Reply :=
  match cs with
  | [] => none
  | c :: cs => if c.legal then firstIllegal cs else some (.invalidArgument c.name c.range)

/-- Every field of the table checked, then the rest of the request. -/
def checkFields (cs : List FieldCheck) (k : State → Run) (s : State) : Run :=
  match firstIllegal cs with
  | some o => .ended o s
  | none => k s

/-- `CheckField` of the three channels: red, green, blue (R81, D7). -/
def channelTable (r g b : Int) : List FieldCheck :=
  [⟨.red, .bits 8, r⟩, ⟨.green, .bits 8, g⟩, ⟨.blue, .bits 8, b⟩]

/-- A width-checked row of the configuration's table. -/
def cfgRow (f : CfgField) (w : Nat) (v : Int) : FieldCheck := ⟨.cfg f, .bits w, v⟩

/-- The 14 rows of a gamma curve, coefficient `k` against `M[k]`, counting from `k`. -/
def gammaRows (name : Nat → CfgField) (k : Nat) (cs : List Int) : List FieldCheck :=
  match cs with
  | [] => []
  | c :: cs => ⟨.cfg (name k), .maskBits k, c⟩ :: gammaRows name (k + 1) cs

def madctlRows (c : MadctlCfg) : List FieldCheck :=
  [cfgRow .my 1 c.my, cfgRow .mx 1 c.mx, cfgRow .mv 1 c.mv, cfgRow .ml 1 c.ml, cfgRow .rgb 1 c.rgb, cfgRow .mh 1 c.mh]

def colmodRows (c : ColmodCfg) : List FieldCheck := [cfgRow .rgbIf 3 c.rgbIf, cfgRow .ctrlIf 3 c.ctrlIf]

def porchRows (c : PorchCfg) : List FieldCheck :=
  [cfgRow .bpa 7 c.bpa, cfgRow .fpa 7 c.fpa, cfgRow .psen 1 c.psen, cfgRow .bpb 4 c.bpb, cfgRow .fpb 4 c.fpb,
    cfgRow .bpc 4 c.bpc, cfgRow .fpc 4 c.fpc]

def gateRows (c : GateCfg) : List FieldCheck := [cfgRow .vghs 3 c.vghs, cfgRow .vgls 3 c.vgls]

def lcmRows (c : LcmCfg) : List FieldCheck :=
  [cfgRow .xmy 1 c.xmy, cfgRow .xbgr 1 c.xbgr, cfgRow .xinv 1 c.xinv, cfgRow .xmx 1 c.xmx, cfgRow .xmh 1 c.xmh,
    cfgRow .xmv 1 c.xmv, cfgRow .xgs 1 c.xgs]

def frctrlRows (c : FrctrlCfg) : List FieldCheck := [cfgRow .nla 3 c.nla, cfgRow .rtna 5 c.rtna]

def powerRows (c : PowerCfg) : List FieldCheck :=
  [cfgRow .avdd 2 c.avdd, cfgRow .avcl 2 c.avcl, cfgRow .vds 2 c.vds]

/-- The table of `ValidateConfig(cfg)`: the 61 fields of R130 with their widths and masks, in check order (R149). -/
def cfgTable (c : Cfg) : List FieldCheck :=
  madctlRows c.madctl ++ colmodRows c.colmod ++ porchRows c.porch ++ gateRows c.gate ++ [cfgRow .vcoms 6 c.vcoms] ++
    lcmRows c.lcm ++ [cfgRow .cmden 1 c.cmden, cfgRow .vrhs 6 c.vrhs, cfgRow .vdvs 6 c.vdvs] ++ frctrlRows c.frctrl ++
    powerRows c.power ++ gammaRows .pgam 1 c.pgamma.toList ++ gammaRows .ngam 1 c.ngamma.toList

/-! ### Registers that may hold no value (R33) -/

/-- A read of CSPACE; without a value it faults (R33, A14). -/
def readCspace (k : ColorSpace → State → Run) (s : State) : Run :=
  match s.cspace with
  | .noValue => .fault (.noValue .cspace)
  | .value c => k c s

/-- A read of DUTY; without a value it faults (R33, A14). -/
def readDuty (k : U16 → State → Run) (s : State) : Run :=
  match s.duty with
  | .noValue => .fault (.noValue .duty)
  | .value d => k d s

/-! ### Host byte regions -/

/-- `MemRead(buf, a, n)`: `n` bytes from offset `a`, in ascending order (R17, R41). -/
def memRead (buf : List Byte) (a n : Nat) : List Byte := (buf.drop a).take n

/-- BYTES_PER_PIXEL of a colour space (R8). -/
def bytesPerPixel : ColorSpace → Nat
  | .rgb565 => 2

/-! ### Window pairs (R120) -/

/-- `0 <= s < e < WINDOW_LIMIT` (R120). -/
def windowPair (s e : Int) : Bool := decide (0 ≤ s ∧ s < e ∧ e < Config.windowLimit)

/-- `SetWindow(xs, xe, ys, ye)`: both pairs checked, the column's first, then CASET and RASET (R121). -/
def setWindow (xs xe ys ye : Int) (s : State) : Run :=
  if windowPair xs xe then
    if windowPair ys ye then
      (sendWire (.caset (BitVec.ofInt 16 xs) (BitVec.ofInt 16 xe)) s).andThen
        (sendWire (.raset (BitVec.ofInt 16 ys) (BitVec.ofInt 16 ye)))
    else .ended (.invalidArgument .row .windowPair) s
  else .ended (.invalidArgument .column .windowPair) s

/-! ### Colours (R81, R82) -/

/-- `r | (g << 8) | (b << 16)`, 24 bits (R81). -/
def packColor (r g b : Int) : BitVec 24 :=
  BitVec.ofInt 24 r ||| (BitVec.ofInt 24 g <<< 8) ||| (BitVec.ofInt 24 b <<< 16)

/-- `((r & 0xF8) << 8) | ((g & 0xFC) << 3) | (b >> 3)`, 16 bits (R82). -/
def packRgb565 (r g b : Int) : BitVec 16 :=
  ((BitVec.ofInt 16 r &&& 0xF8) <<< 8) ||| ((BitVec.ofInt 16 g &&& 0xFC) <<< 3) ||| (BitVec.ofInt 16 b >>> 3)

/-! ### The duty of a binary64 (R102, R105; log entry 21) -/

/-- The bits of a binary64 without its sign. -/
def magnitude (b : BitVec 64) : Nat := b.toNat % 2 ^ 63

/-- The sign of a binary64 is minus. -/
def isNegative (b : BitVec 64) : Bool := decide (2 ^ 63 ≤ b.toNat)

/-- `0 <= b and b <= 1` (R102). Of the values whose sign is minus only -0.0 is at least 0; the magnitude of 1 is
0x3FF0000000000000, and every larger one, infinity and NaN among them, is not at most 1. -/
def inUnitInterval (b : BitVec 64) : Bool :=
  decide (magnitude b ≤ 0x3FF0000000000000) && (!isNegative b || magnitude b == 0)

/-- The exponent field of a binary64. -/
def exponentField (b : BitVec 64) : Nat := magnitude b / 2 ^ 52

/-- The significand of a finite binary64 as an integer, its leading 1 included where it has one. -/
def significand (b : BitVec 64) : Nat :=
  if exponentField b = 0 then magnitude b % 2 ^ 52 else 2 ^ 52 + magnitude b % 2 ^ 52

/-- The `k` with `|b| = significand b / 2^k`, for `|b|` at most 1. -/
def scale (b : BitVec 64) : Nat := 1075 - max (exponentField b) 1

/-- `n / d` rounded to the nearest integer, ties to the even one. -/
def roundHalfEven (n d : Nat) : Nat :=
  let q := n / d
  let r := n % d
  if 2 * r < d then q else if d < 2 * r then q + 1 else if q % 2 = 0 then q else q + 1

/-- How many low bits of an integer do not fit in a binary64's 53 significant bits. -/
def excessBits (n : Nat) : Nat := n.log2 + 1 - 53

/-- An integer rounded to 53 significant bits, ties to even: RNE64 of it, and of it over `2^k` for every `k` of
`scale` (log entry 21). -/
def roundTo53 (n : Nat) : Nat := roundHalfEven n (2 ^ excessBits n) * 2 ^ excessBits n

/-- `DutyOf(b)` as a number (R105): the exact product is `significand b * 65535 / 2^(scale b)`. -/
def dutyNumber (b : BitVec 64) : Nat := roundHalfEven (roundTo53 (significand b * Config.dutyMax)) (2 ^ scale b)

/-- `DutyOf(b)` (R105), for `b` in [0, 1]. -/
def dutyOf (b : BitVec 64) : U16 := BitVec.ofNat 16 (dutyNumber b)

end Sys2Proof.Machine
end

