-- ==== Sys2Proof/Machine/Power.lean ====
section
/-! DEFINITION. SLEEP, WAKE and DIM (spec/42_power_and_brightness.md). -/

namespace Sys2Proof.Machine

/-- SLEEP (R100). -/
def execSleep (s : State) : Host.Outcome State Fault Refusal :=
  serve (setUp fun s =>
    (((emit (.pwmDuty 0) s).andThen (sendWire .dispoff)).andThen (sendWire .slpin)).andThen fun s =>
      .going (s.setMode .asleep)) s

/-- `Emit(PwmDuty(DUTY))` (R101, R102). -/
def applyDuty (s : State) : Run := readDuty (fun d s => emit (.pwmDuty d) s) s

/-- WAKE (R101). -/
def execWake (s : State) : Host.Outcome State Fault Refusal :=
  serve (setUp fun s =>
    (((sendWire .slpout s).andThen (sendWire .dispon)).andThen applyDuty).andThen fun s =>
      .going (s.setMode .awake)) s

/-- DUTY is written where the pseudocode writes it (R23, D13). -/
def State.setDuty (d : U16) (s : State) : State := { s with duty := .value d }

/-- DIM (R102). -/
def execDim (b : Option (BitVec 64)) (s : State) : Host.Outcome State Fault Refusal :=
  serve (setUp fun s =>
    match b with
    | none => applyDuty s
    | some v =>
      if inUnitInterval v then applyDuty (s.setDuty (dutyOf v))
      else .ended (.invalidArgument .brightness .unitInterval) s) s

end Sys2Proof.Machine
end

