-- ==== Sys2Proof/Machine/BringUp.lean ====
section
/-! DEFINITION. INIT (spec/45_bringup.md). -/

namespace Sys2Proof.Machine

/-- A validated field of width `w` (R113: it fits). -/
def fieldBits (w : Nat) (v : Int) : BitVec w := BitVec.ofInt w v

def madctlCmd (c : MadctlCfg) : Instr :=
  .madctl (fieldBits 1 c.my) (fieldBits 1 c.mx) (fieldBits 1 c.mv) (fieldBits 1 c.ml) (fieldBits 1 c.rgb)
    (fieldBits 1 c.mh)

def colmodCmd (c : ColmodCfg) : Instr := .colmod (fieldBits 3 c.rgbIf) (fieldBits 3 c.ctrlIf)

def porchCmd (c : PorchCfg) : Instr :=
  .porctrl (fieldBits 7 c.bpa) (fieldBits 7 c.fpa) (fieldBits 1 c.psen) (fieldBits 4 c.bpb) (fieldBits 4 c.fpb)
    (fieldBits 4 c.bpc) (fieldBits 4 c.fpc)

def gateCmd (c : GateCfg) : Instr := .gctrl (fieldBits 3 c.vghs) (fieldBits 3 c.vgls)

def lcmCmd (c : LcmCfg) : Instr :=
  .lcmctrl (fieldBits 1 c.xmy) (fieldBits 1 c.xbgr) (fieldBits 1 c.xinv) (fieldBits 1 c.xmx) (fieldBits 1 c.xmh)
    (fieldBits 1 c.xmv) (fieldBits 1 c.xgs)

def frctrlCmd (c : FrctrlCfg) : Instr := .frctrl2 (fieldBits 3 c.nla) (fieldBits 5 c.rtna)

def powerCmd (c : PowerCfg) : Instr := .pwctrl1 (fieldBits 2 c.avdd) (fieldBits 2 c.avcl) (fieldBits 2 c.vds)

/-- The sixteen bring-up commands in their fixed order (R131, R133 to R148, R197). -/
def bringUpCommands (c : Cfg) : List Instr :=
  [madctlCmd c.madctl, colmodCmd c.colmod, porchCmd c.porch, gateCmd c.gate, .vcoms (fieldBits 6 c.vcoms),
    lcmCmd c.lcm, .vdvvrhen (fieldBits 1 c.cmden) Config.c2TrailerSent, .vrhs (fieldBits 6 c.vrhs)] ++
  [.vdvs (fieldBits 6 c.vdvs), frctrlCmd c.frctrl, powerCmd c.power, .pvgamctrl (c.pgamma.map (fieldBits 8)),
    .nvgamctrl (c.ngamma.map (fieldBits 8)), .invon, .slpout, .dispon]

/-- The reset pulse, low then high (R132). -/
def resetPulse : List Event := [.setRST .low, .setRST .high]

/-- The events of the bring-up sequence before the duty is applied (R131). -/
def bringUpEvents (c : Cfg) : List Event := resetPulse ++ (bringUpCommands c).flatMap wireEvents

/-- CSPACE is written where the pseudocode writes it (R22, R131). -/
def State.setCspace (c : ColorSpace) (s : State) : State := { s with cspace := .value c }

/-- INIT (R131): `ValidateConfig`, MODE Uninitialized, the sequence, CSPACE, DUTY, the duty applied, MODE Awake. -/
def execInit (cfg : Cfg) (s : State) : Host.Outcome State Fault Refusal :=
  serve (checkFields (cfgTable cfg) fun s =>
    ((emitAll (bringUpEvents cfg) (s.setMode .uninitialized)).andThen fun s =>
      applyDuty ((s.setCspace .rgb565).setDuty Config.d0)).andThen fun s =>
        .going (s.setMode .awake)) s

end Sys2Proof.Machine
end

