-- ==== Sys2Proof/Machine/ColorSpace.lean ====
section
/-! DEFINITION. COLOR_SPACE, PACK_COLOR and PACK_RGB565 (spec/40_color_space.md). -/

namespace Sys2Proof.Machine

/-- COLOR_SPACE (R80). -/
def execColorSpace (s : State) : Host.Outcome State Fault Refusal :=
  serve (setUp (readCspace fun c s => .ended (.ok (.colorSpace c)) s)) s

/-- PACK_COLOR (R81), in every MODE. -/
def execPackColor (r g b : Int) (s : State) : Host.Outcome State Fault Refusal :=
  serve (checkFields (channelTable r g b) fun s => .ended (.ok (.color24 (packColor r g b))) s) s

/-- PACK_RGB565 (R82), in every MODE. -/
def execPackRgb565 (r g b : Int) (s : State) : Host.Outcome State Fault Refusal :=
  serve (checkFields (channelTable r g b) fun s => .ended (.ok (.pixel16 (packRgb565 r g b))) s) s

end Sys2Proof.Machine
end

