-- ==== Sys2Proof/Machine/FrameBuffer.lean ====
section
/-! DEFINITION. MAKE_FRAME_BUFFER and SHOW (spec/41_frame_buffer_and_show.md). -/

namespace Sys2Proof.Machine

/-- The new pixel buffer of a colour space: the panel's size, stride the width, all zero (R90, D19). -/
def newFrameBuffer (c : ColorSpace) : PixelBuffer where
  width := Config.panelWidth
  height := Config.panelHeight
  format := c
  stride := Config.panelWidth
  bytes := List.replicate (Config.panelWidth * Config.panelHeight * bytesPerPixel c) 0

/-- MAKE_FRAME_BUFFER (R90). -/
def execMakeFrameBuffer (s : State) : Host.Outcome State Fault Refusal :=
  serve (setUp (readCspace fun c s => .ended (.ok (.frameBuffer (newFrameBuffer c))) s)) s

/-- The full-panel window (R92). -/
def fullPanelWindow (s : State) : Run :=
  setWindow 0 (Config.panelWidth - 1) 0 (Config.panelHeight - 1) s

/-- SHOW (R93). Not gated on Awake (R201). -/
def execShowFrame (buf : List Byte) (s : State) : Host.Outcome State Fault Refusal :=
  serve (setUp fun s => (fullPanelWindow s).andThen (sendWire (.ramwr (memRead buf 0 buf.length)))) s

end Sys2Proof.Machine
end

