-- ==== Sys2Proof/Machine/Wire.lean ====
section
/-! DEFINITION. SEND_COMMAND (spec/43_wire_protocol.md), SET_WINDOW (spec/44_address_window.md), and the reserved
headers (spec/30_encoding.md R65, spec/60_exceptions.md R175). -/

namespace Sys2Proof.Machine

/-- `opcode < 0 or opcode > 0xFF` does not hold (R111). -/
def opcodeLegal (opcode : Int) : Bool := decide (0 ≤ opcode ∧ opcode ≤ Config.opcodeMax)

/-- SEND_COMMAND (R111). The bytes are sent without interpretation (R112). -/
def execSendCommand (opcode : Int) (data : Option (List Byte)) (s : State) : Host.Outcome State Fault Refusal :=
  serve (setUp fun s =>
    if opcodeLegal opcode then sendCmd (BitVec.ofInt 8 opcode) (data.map fun d => memRead d 0 d.length) s
    else .ended (.invalidArgument .opcode (.bits 8)) s) s

/-- SET_WINDOW (R122). -/
def execSetWindow (xs xe ys ye : Int) (s : State) : Host.Outcome State Fault Refusal :=
  serve (setUp (setWindow xs xe ys ye)) s

/-- The end of a reserved request: `Refused(header)`, no event, no register write (R65, R175). -/
def refuse (header : Byte) (s : State) : Run := .ended (.refused header) s

/-- RESERVED, header 0x0B. -/
def execReservedB (s : State) : Host.Outcome State Fault Refusal := serve (refuse 0x0B) s

/-- RESERVED, headers 0x0C..0x0F. -/
def execReservedCToF (lo : BitVec 2) (s : State) : Host.Outcome State Fault Refusal :=
  serve (refuse (0x0C ||| Layout.place 0 lo)) s

/-- RESERVED_RSV, headers 0x10..0xFF. -/
def execReservedRsv (rsv op : BitVec 4) (s : State) : Host.Outcome State Fault Refusal :=
  serve (refuse (Layout.place 4 rsv ||| Layout.place 0 op)) s

end Sys2Proof.Machine
end

