-- ==== Sys2Proof/Machine/WireCommands.lean ====
section
/-! DEFINITION. The 21 wire commands (spec/30_encoding.md R59 to R61), each issued by itself: the SendCmd primitive
(spec/43_wire_protocol.md R110) with the command's opcode and parameter bytes, no MODE check and no register but the
lines' and TRACE written (R103, R104, R112; log entry 11). INIT, SLEEP, WAKE, SHOW and SET_WINDOW send the same
commands through the same `sendWire`. -/

namespace Sys2Proof.Machine

/-- SLPIN (R104). -/
def execSlpin (s : State) : Host.Outcome State Fault Refusal :=
  serve (sendWire .slpin) s

/-- SLPOUT (R147). -/
def execSlpout (s : State) : Host.Outcome State Fault Refusal :=
  serve (sendWire .slpout) s

/-- INVON (R146). -/
def execInvon (s : State) : Host.Outcome State Fault Refusal :=
  serve (sendWire .invon) s

/-- DISPOFF (R103). -/
def execDispoff (s : State) : Host.Outcome State Fault Refusal :=
  serve (sendWire .dispoff) s

/-- DISPON (R148). -/
def execDispon (s : State) : Host.Outcome State Fault Refusal :=
  serve (sendWire .dispon) s

/-- CASET (R123). By itself it checks no pair; SET_WINDOW and SHOW check theirs first (R120, R121; log entry 27). -/
def execCaset (xs xe : U16) (s : State) : Host.Outcome State Fault Refusal :=
  serve (sendWire (.caset xs xe)) s

/-- RASET (R124). By itself it checks no pair; SET_WINDOW and SHOW check theirs first (R120, R121; log entry 27). -/
def execRaset (ys ye : U16) (s : State) : Host.Outcome State Fault Refusal :=
  serve (sendWire (.raset ys ye)) s

/-- RAMWR (R91). -/
def execRamwr (pixels : List Byte) (s : State) : Host.Outcome State Fault Refusal :=
  serve (sendWire (.ramwr pixels)) s

/-- MADCTL (R133). -/
def execMadctl (my mx mv ml rgb mh : BitVec 1) (s : State) : Host.Outcome State Fault Refusal :=
  serve (sendWire (.madctl my mx mv ml rgb mh)) s

/-- COLMOD (R134). -/
def execColmod (rgbIf ctrlIf : BitVec 3) (s : State) : Host.Outcome State Fault Refusal :=
  serve (sendWire (.colmod rgbIf ctrlIf)) s

/-- PORCTRL (R135). -/
def execPorctrl (bpa fpa : BitVec 7) (psen : BitVec 1) (bpb fpb bpc fpc : BitVec 4)
    (s : State) : Host.Outcome State Fault Refusal :=
  serve (sendWire (.porctrl bpa fpa psen bpb fpb bpc fpc)) s

/-- GCTRL (R136). -/
def execGctrl (vghs vgls : BitVec 3) (s : State) : Host.Outcome State Fault Refusal :=
  serve (sendWire (.gctrl vghs vgls)) s

/-- VCOMS (R137). -/
def execVcoms (v : BitVec 6) (s : State) : Host.Outcome State Fault Refusal :=
  serve (sendWire (.vcoms v)) s

/-- LCMCTRL (R138). -/
def execLcmctrl (xmy xbgr xinv xmx xmh xmv xgs : BitVec 1) (s : State) : Host.Outcome State Fault Refusal :=
  serve (sendWire (.lcmctrl xmy xbgr xinv xmx xmh xmv xgs)) s

/-- VDVVRHEN (R139), in the length its item has (log entry 8). -/
def execVdvvrhen (cmden : BitVec 1) (trailer : Bool) (s : State) : Host.Outcome State Fault Refusal :=
  serve (sendWire (.vdvvrhen cmden trailer)) s

/-- VRHS (R140). -/
def execVrhs (v : BitVec 6) (s : State) : Host.Outcome State Fault Refusal :=
  serve (sendWire (.vrhs v)) s

/-- VDVS (R141). -/
def execVdvs (v : BitVec 6) (s : State) : Host.Outcome State Fault Refusal :=
  serve (sendWire (.vdvs v)) s

/-- FRCTRL2 (R142). -/
def execFrctrl2 (nla : BitVec 3) (rtna : BitVec 5) (s : State) : Host.Outcome State Fault Refusal :=
  serve (sendWire (.frctrl2 nla rtna)) s

/-- PWCTRL1 (R143). -/
def execPwctrl1 (avdd avcl vds : BitVec 2) (s : State) : Host.Outcome State Fault Refusal :=
  serve (sendWire (.pwctrl1 avdd avcl vds)) s

/-- PVGAMCTRL (R144). -/
def execPvgamctrl (curve : Curve Byte) (s : State) : Host.Outcome State Fault Refusal :=
  serve (sendWire (.pvgamctrl curve)) s

/-- NVGAMCTRL (R145). -/
def execNvgamctrl (curve : Curve Byte) (s : State) : Host.Outcome State Fault Refusal :=
  serve (sendWire (.nvgamctrl curve)) s

end Sys2Proof.Machine
end

