-- ==== Sys2Proof/Machine/Dispatch.lean ====
section
/-! DEFINITION. One arm per instruction, each one direct call of its meaning. -/

namespace Sys2Proof.Machine

def exec (i : Instr) (s : State) : Host.Outcome State Fault Refusal :=
  match i with
  | .init cfg => Sys2Proof.Machine.execInit cfg s
  | .makeFrameBuffer => Sys2Proof.Machine.execMakeFrameBuffer s
  | .showFrame buf => Sys2Proof.Machine.execShowFrame buf s
  | .sleep => Sys2Proof.Machine.execSleep s
  | .wake => Sys2Proof.Machine.execWake s
  | .dim b => Sys2Proof.Machine.execDim b s
  | .sendCommand opcode data => Sys2Proof.Machine.execSendCommand opcode data s
  | .setWindow xs xe ys ye => Sys2Proof.Machine.execSetWindow xs xe ys ye s
  | .colorSpace => Sys2Proof.Machine.execColorSpace s
  | .packColor r g b => Sys2Proof.Machine.execPackColor r g b s
  | .packRgb565 r g b => Sys2Proof.Machine.execPackRgb565 r g b s
  | .reservedB => Sys2Proof.Machine.execReservedB s
  | .reservedCToF lo => Sys2Proof.Machine.execReservedCToF lo s
  | .reservedRsv rsv op => Sys2Proof.Machine.execReservedRsv rsv op s
  | .slpin => Sys2Proof.Machine.execSlpin s
  | .slpout => Sys2Proof.Machine.execSlpout s
  | .invon => Sys2Proof.Machine.execInvon s
  | .dispoff => Sys2Proof.Machine.execDispoff s
  | .dispon => Sys2Proof.Machine.execDispon s
  | .caset xs xe => Sys2Proof.Machine.execCaset xs xe s
  | .raset ys ye => Sys2Proof.Machine.execRaset ys ye s
  | .ramwr pixels => Sys2Proof.Machine.execRamwr pixels s
  | .madctl my mx mv ml rgb mh => Sys2Proof.Machine.execMadctl my mx mv ml rgb mh s
  | .colmod rgbIf ctrlIf => Sys2Proof.Machine.execColmod rgbIf ctrlIf s
  | .porctrl bpa fpa psen bpb fpb bpc fpc => Sys2Proof.Machine.execPorctrl bpa fpa psen bpb fpb bpc fpc s
  | .gctrl vghs vgls => Sys2Proof.Machine.execGctrl vghs vgls s
  | .vcoms v => Sys2Proof.Machine.execVcoms v s
  | .lcmctrl xmy xbgr xinv xmx xmh xmv xgs => Sys2Proof.Machine.execLcmctrl xmy xbgr xinv xmx xmh xmv xgs s
  | .vdvvrhen cmden trailer => Sys2Proof.Machine.execVdvvrhen cmden trailer s
  | .vrhs v => Sys2Proof.Machine.execVrhs v s
  | .vdvs v => Sys2Proof.Machine.execVdvs v s
  | .frctrl2 nla rtna => Sys2Proof.Machine.execFrctrl2 nla rtna s
  | .pwctrl1 avdd avcl vds => Sys2Proof.Machine.execPwctrl1 avdd avcl vds s
  | .pvgamctrl curve => Sys2Proof.Machine.execPvgamctrl curve s
  | .nvgamctrl curve => Sys2Proof.Machine.execNvgamctrl curve s

end Sys2Proof.Machine
end

