-- ==== Sys2Proof/Machine/Step.lean ====
section
/-! DEFINITION. One step: the host's next item, decoded and run (spec/10_state.md R27). Three outcomes: a next state,
a fault, a refusal. -/

namespace Sys2Proof.Machine

/-- One step. Where the host has no further request, nothing happens (R207; log entry 6). -/
def step (s : State) : Host.Outcome State Fault Refusal :=
  match s.fetch with
  | none => .next s
  | some item =>
    match decode item with
    | .ok i => exec i s
    | .error e => .refused (.undecodable e)

/-- `s` with the instruction of an opcode table's word as the host's next item, no earlier call stuck, and, where the
state lists no transport answers, enough completing ones for any request (log entry 13). -/
def State.withFetchWord (s : State) (nbits w : Nat) : State :=
  { s with
    reqs := s.reqs.take s.pc ++ List.replicate (s.pc - s.reqs.length) (tableItem nbits w) ++
      [tableItem nbits w] ++ s.reqs.drop (s.pc + 1)
    hung := none
    answers := if s.answers.isEmpty then List.replicate 148 .completes else s.answers }

end Sys2Proof.Machine
end

