-- ==== Sys2Proof/Safety.lean ====
section
/-! DEFINITION. The terms claims are made in: the wire trace as spec/30_encoding.md R69 writes it, the sequence each
request sends (spec/41 to spec/45), the bring-up bytes as spec/45_bringup.md writes them, the end of a run and its
observation (spec/70 R207, R208), and the invariants. Nothing here is used by the machine. -/

namespace Sys2Proof

/-! ### The trace as the spec writes it -/

/-- The event of a trace entry. -/
def Machine.Entry.event : Machine.Entry → Machine.Event
  | .ok e => e
  | .failed e => e

namespace Safety

open Machine

/-- The events of a wire command with opcode `o` and parameters `ps`: ten, or the first five when there are no
parameters (R69). -/
def cmd (o : Byte) (ps : List Byte) : List Event :=
  [.setCS .high, .setDC .low, .setCS .low, .spiWrite [o], .setCS .high] ++
    if ps = [] then [] else [.setCS .high, .setDC .high, .setCS .low, .spiWrite ps, .setCS .high]

/-! ### Bring-up bytes, in the integer form of R133 to R145 -/

/-- A byte given as a number. -/
def byte (n : Nat) : Byte := BitVec.ofNat 8 n

/-- R133. -/
def madctlBytes (c : Cfg) : List Byte :=
  [byte ((c.madctl.my.toNat <<< 7) ||| (c.madctl.mx.toNat <<< 6) ||| (c.madctl.mv.toNat <<< 5) |||
    (c.madctl.ml.toNat <<< 4) ||| (c.madctl.rgb.toNat <<< 3) ||| (c.madctl.mh.toNat <<< 2))]

/-- R134. -/
def colmodBytes (c : Cfg) : List Byte := [byte ((c.colmod.rgbIf.toNat <<< 4) ||| c.colmod.ctrlIf.toNat)]

/-- R135. -/
def porchBytes (c : Cfg) : List Byte :=
  [byte c.porch.bpa.toNat, byte c.porch.fpa.toNat, byte c.porch.psen.toNat,
    byte ((c.porch.bpb.toNat <<< 4) ||| c.porch.fpb.toNat), byte ((c.porch.bpc.toNat <<< 4) ||| c.porch.fpc.toNat)]

/-- R136. -/
def gateBytes (c : Cfg) : List Byte := [byte ((c.gate.vghs.toNat <<< 4) ||| c.gate.vgls.toNat)]

/-- R137. -/
def vcomBytes (c : Cfg) : List Byte := [byte c.vcoms.toNat]

/-- R138. -/
def lcmBytes (c : Cfg) : List Byte :=
  [byte ((c.lcm.xmy.toNat <<< 6) ||| (c.lcm.xbgr.toNat <<< 5) ||| (c.lcm.xinv.toNat <<< 4) |||
    (c.lcm.xmx.toNat <<< 3) ||| (c.lcm.xmh.toNat <<< 2) ||| (c.lcm.xmv.toNat <<< 1) ||| c.lcm.xgs.toNat)]

/-- R139. -/
def vdvVrhEnBytes (c : Cfg) : List Byte := byte c.cmden.toNat :: if Config.c2TrailerSent then [0xFF] else []

/-- R140. -/
def vrhBytes (c : Cfg) : List Byte := [byte c.vrhs.toNat]

/-- R141. -/
def vdvBytes (c : Cfg) : List Byte := [byte c.vdvs.toNat]

/-- R142. -/
def frameRateBytes (c : Cfg) : List Byte := [byte ((c.frctrl.nla.toNat <<< 5) ||| c.frctrl.rtna.toNat)]

/-- R143. -/
def powerBytes (c : Cfg) : List Byte :=
  [0xA4, byte ((c.power.avdd.toNat <<< 6) ||| (c.power.avcl.toNat <<< 4) ||| c.power.vds.toNat)]

/-- A gamma curve's data phase (R144, R145). -/
def gammaBytes (c : Curve Int) : List Byte := c.toList.map fun v => byte v.toNat

/-- The sixteen commands of the bring-up sequence, opcode and parameters, in R131's order. -/
def bringUp (c : Cfg) : List (Byte × List Byte) :=
  [(0x36, madctlBytes c), (0x3A, colmodBytes c), (0xB2, porchBytes c), (0xB7, gateBytes c), (0xBB, vcomBytes c),
    (0xC0, lcmBytes c), (0xC2, vdvVrhEnBytes c), (0xC3, vrhBytes c)] ++
  [(0xC4, vdvBytes c), (0xC6, frameRateBytes c), (0xD0, powerBytes c), (0xE0, gammaBytes c.pgamma),
    (0xE1, gammaBytes c.ngamma), (0x21, []), (0x11, []), (0x29, [])]

/-- Every field of the record is legal (R130, R149). -/
def cfgLegal (c : Cfg) : Bool := (cfgTable c).all fun r => r.legal

/-! ### The sequence of each request -/

/-- INIT's events (R131): the reset pulse, the sixteen commands, the duty. -/
def initEvents (c : Cfg) : List Event :=
  [.setRST .low, .setRST .high] ++ ((bringUp c).flatMap fun p => cmd p.1 p.2) ++ [.pwmDuty Config.d0]

/-- CASET then RASET for these coordinates (R121). -/
def windowEvents (xs xe ys ye : Int) : List Event :=
  cmd 0x2A [byte (xs.toNat / 256), byte xs.toNat, byte (xe.toNat / 256), byte xe.toNat] ++
    cmd 0x2B [byte (ys.toNat / 256), byte ys.toNat, byte (ye.toNat / 256), byte ye.toNat]

/-- SHOW's events (R92, R93). -/
def showEvents (buf : List Byte) : List Event := windowEvents 0 239 0 239 ++ cmd 0x2C buf

/-- SLEEP's events (R100). -/
def sleepEvents : List Event := [.pwmDuty 0] ++ cmd 0x28 [] ++ cmd 0x10 []

/-- WAKE's events, `d` the stored duty (R101). -/
def wakeEvents (d : U16) : List Event := cmd 0x11 [] ++ cmd 0x29 [] ++ [.pwmDuty d]

/-- The events an instruction performs from a state where DUTY holds `d`, when all its checks pass and every call
completes (R93, R100 to R102, R111, R122, R131, and R110 for a wire command). -/
def sequenceOf (i : Instr) (d : U16) : List Event :=
  match i with
  | .init cfg => initEvents cfg
  | .showFrame buf => showEvents buf
  | .sleep => sleepEvents
  | .wake => wakeEvents d
  | .dim none => [.pwmDuty d]
  | .dim (some b) => [.pwmDuty (dutyOf b)]
  | .sendCommand opcode data => cmd (BitVec.ofInt 8 opcode) (data.getD [])
  | .setWindow xs xe ys ye => windowEvents xs xe ys ye
  | .makeFrameBuffer | .colorSpace | .packColor _ _ _ | .packRgb565 _ _ _ | .reservedB | .reservedCToF _
  | .reservedRsv _ _ => []
  | .slpin => cmd 0x10 []
  | .slpout => cmd 0x11 []
  | .invon => cmd 0x21 []
  | .dispoff => cmd 0x28 []
  | .dispon => cmd 0x29 []
  | .caset _ _ | .raset _ _ | .ramwr _ | .madctl _ _ _ _ _ _ | .colmod _ _ | .porctrl _ _ _ _ _ _ _ | .gctrl _ _
  | .vcoms _ | .lcmctrl _ _ _ _ _ _ _ | .vdvvrhen _ _ | .vrhs _ | .vdvs _ | .frctrl2 _ _ | .pwctrl1 _ _ _
  | .pvgamctrl _ | .nvgamctrl _ =>
    match encode i with
    | .wire op ps => cmd op ps
    | .request _ _ => []

/-- The bytes a call puts on the serial bus, when it completes (R43, R48). -/
def busBytes : Event → List Byte
  | .spiWrite bs => bs
  | .setCS _ | .setDC _ | .setRST _ | .pwmDuty _ => []

/-! ### The two roundings of R105 -/

/-- `r` is `n / d` rounded to a nearest integer, the even one on a tie. -/
abbrev RoundsHalfEven (n d r : Nat) : Prop :=
  2 * (r * d) ≤ 2 * n + d ∧ 2 * n ≤ 2 * (r * d) + d ∧
  ((2 * (r * d) = 2 * n + d ∨ 2 * n = 2 * (r * d) + d) → r % 2 = 0)

/-- `p` is `n` rounded to a nearest number `q * 2^e` of 53 significant bits, on a tie the one whose `q` is even. -/
def RoundsTo53 (n p : Nat) : Prop :=
  (∃ q e, q ≤ 2 ^ 53 ∧ (e = 0 ∨ 2 ^ 52 ≤ q) ∧ p = q * 2 ^ e ∧
    2 * ((n : Int) - p).natAbs ≤ 2 ^ e ∧ (2 * ((n : Int) - p).natAbs = 2 ^ e → q % 2 = 0)) ∧
  ∀ q e : Nat, q < 2 ^ 53 → ((n : Int) - p).natAbs ≤ ((n : Int) - (q * 2 ^ e : Nat)).natAbs

/-! ### Requests and outcomes -/

/-- Each wire command's opcode and its number of parameter bytes, as R60's table lists them; a host request has no
row. -/
def wireRow : Instr → Option (Byte × Nat)
  | .slpin => some (0x10, 0)
  | .slpout => some (0x11, 0)
  | .invon => some (0x21, 0)
  | .dispoff => some (0x28, 0)
  | .dispon => some (0x29, 0)
  | .caset _ _ => some (0x2A, 4)
  | .raset _ _ => some (0x2B, 4)
  | .ramwr pixels => some (0x2C, pixels.length)
  | .madctl _ _ _ _ _ _ => some (0x36, 1)
  | .colmod _ _ => some (0x3A, 1)
  | .porctrl _ _ _ _ _ _ _ => some (0xB2, 5)
  | .gctrl _ _ => some (0xB7, 1)
  | .vcoms _ => some (0xBB, 1)
  | .lcmctrl _ _ _ _ _ _ _ => some (0xC0, 1)
  | .vdvvrhen _ trailer => some (0xC2, if trailer then 2 else 1)
  | .vrhs _ => some (0xC3, 1)
  | .vdvs _ => some (0xC4, 1)
  | .frctrl2 _ _ => some (0xC6, 1)
  | .pwctrl1 _ _ _ => some (0xD0, 2)
  | .pvgamctrl _ => some (0xE0, 14)
  | .nvgamctrl _ => some (0xE1, 14)
  | .init _ | .makeFrameBuffer | .showFrame _ | .sleep | .wake | .dim _ | .sendCommand _ _ | .setWindow _ _ _ _
  | .colorSpace | .packColor _ _ _ | .packRgb565 _ _ _ | .reservedB | .reservedCToF _ | .reservedRsv _ _ => none

/-- The instruction is one of the 21 wire commands (R60). -/
def isWire (i : Instr) : Bool :=
  match encode i with
  | .wire _ _ => true
  | .request _ _ => false

/-- The instruction is a request with the setup check: every request except INIT, PACK_COLOR and PACK_RGB565 (R174),
a reserved header being refused before any check (R177). -/
def hasSetupCheck : Instr → Bool
  | .makeFrameBuffer | .showFrame _ | .sleep | .wake | .dim _ | .sendCommand _ _ | .setWindow _ _ _ _
  | .colorSpace => true
  | .init _ | .packColor _ _ _ | .packRgb565 _ _ _ | .reservedB | .reservedCToF _ | .reservedRsv _ _
  | .slpin | .slpout | .invon | .dispoff | .dispon | .caset _ _ | .raset _ _ | .ramwr _
  | .madctl _ _ _ _ _ _ | .colmod _ _ | .porctrl _ _ _ _ _ _ _ | .gctrl _ _ | .vcoms _ | .lcmctrl _ _ _ _ _ _ _
  | .vdvvrhen _ _ | .vrhs _ | .vdvs _ | .frctrl2 _ _ | .pwctrl1 _ _ _ | .pvgamctrl _ | .nvgamctrl _ => false

/-- InvalidArgument, InvalidState or Refused: the outcomes that leave no trace (R178). -/
def quiet : Reply → Bool
  | .invalidArgument _ _ | .invalidState | .refused _ => true
  | .ok _ | .transportError _ => false

/-- The state after a request that ended with `o` and did nothing else (R27, R28, R178). -/
def untouched (s : State) (o : Reply) : State :=
  { s with seq := 0, pc := s.pc + 1, outcomes := s.outcomes ++ [o] }

/-- No earlier call is stuck, and the transport completes the next `n` calls (R44(a)). -/
abbrev Completing (n : Nat) (rest : List Answer) (s : State) : Prop :=
  s.hung = none ∧ s.answers = List.replicate n .completes ++ rest

/-- A start/end pair of one axis is legal (R120). -/
abbrev LegalPair (s e : Int) : Prop := 0 ≤ s ∧ s < e ∧ e < 0x013F

/-- A colour channel is legal (R81). -/
abbrev LegalChannel (v : Int) : Prop := 0 ≤ v ∧ v ≤ 255

/-- The program is a host's: it holds requests only (R55; log entry 11). -/
def hostProgram (s : State) : Bool :=
  s.reqs.all fun it =>
    match it with
    | .request _ _ => true
    | .wire _ _ => false

/-! ### The end of a run and its observation -/

/-- The run has ended: its last request has an outcome (R207). -/
def runEnded (s : State) : Bool := s.pc == s.reqs.length && s.hung.isNone

/-- What a claim may observe of an ended run (R208). -/
structure Observation where
  outcomes : List Reply
  trace : List Entry
  mode : Mode
  cspace : Held ColorSpace
  duty : Held U16
  pwm : Pwm
  cs : Line
  dc : Line
  rst : Line
deriving DecidableEq, Repr

/-- The observation of a state (R208). SEQ is not observed. -/
def observe (s : State) : Observation :=
  ⟨s.outcomes, s.trace, s.mode, s.cspace, s.duty, s.pwm, s.cs, s.dc, s.rst⟩

/-- The run is refused: some outcome is `Refused` (R208). -/
def runRefused (s : State) : Bool :=
  s.outcomes.any fun o =>
    match o with
    | .refused _ => true
    | .ok _ | .invalidArgument _ _ | .invalidState | .transportError _ => false

/-! ### Invariants -/

/-- Where MODE is not Uninitialized, CSPACE and DUTY hold values (R33). -/
abbrev Valued (s : State) : Prop := s.mode ≠ .uninitialized → s.cspace ≠ .noValue ∧ s.duty ≠ .noValue

/-- The host has one outcome for each request that ended (R27, R208). -/
abbrev Counted (s : State) : Prop := s.outcomes.length = s.pc

/-- The four outputs. -/
structure Outputs where
  cs : Line
  dc : Line
  rst : Line
  pwm : Pwm
deriving DecidableEq, Repr

/-- What an entry of the trace makes of the outputs: the level driven, or Unknown after a failure (R24, R25). -/
def Outputs.after (o : Outputs) (x : Entry) : Outputs :=
  match x with
  | .ok (.setCS l) => { o with cs := .driven l }
  | .ok (.setDC l) => { o with dc := .driven l }
  | .ok (.setRST l) => { o with rst := .driven l }
  | .ok (.pwmDuty d) => { o with pwm := .duty d }
  | .failed (.setCS _) => { o with cs := .unknown }
  | .failed (.setDC _) => { o with dc := .unknown }
  | .failed (.setRST _) => { o with rst := .unknown }
  | .failed (.pwmDuty _) => { o with pwm := .unknown }
  | .ok (.spiWrite _) => o
  | .failed (.spiWrite _) => o

/-- The outputs a trace leaves, from all Unknown (R190). -/
def replay (xs : List Entry) : Outputs := xs.foldl Outputs.after ⟨.unknown, .unknown, .unknown, .unknown⟩

/-- CS, DC, RST and PWM are what TRACE last did to them (R24, R25). -/
abbrev LevelsMatchTrace (s : State) : Prop := ⟨s.cs, s.dc, s.rst, s.pwm⟩ = replay s.trace

/-- Every bus write of the trace stands in a CS-low bracket of its own with DC set before it: right after CS high, DC
`l`, CS low, all completed; with DC low it carries exactly one byte, and it is never empty (R43, R59, R66, R110,
R194). -/
def Bracketed (xs : List Entry) : Prop :=
  ∀ pre x post bs, xs = pre ++ x :: post → x.event = .spiWrite bs →
    ∃ before l, pre = before ++ [.ok (.setCS .high), .ok (.setDC l), .ok (.setCS .low)] ∧ bs ≠ [] ∧
      (l = .low → bs.length = 1)

end Safety
end Sys2Proof
end

