-- ==== Sys2Proof/Certificates/Slice0/Obligations.lean ====
section
/-! DEFINITION. The statements for the provers, from the numbered rules of spec/. Every statement holds for every
value of the free values (D0, C2_TRAILER, the transport's answers where the state lists none). -/

open Sys2Proof Sys2Proof.Machine Sys2Proof.Safety

/-! ### Encodings -/

/-- Words written out from R56, R57, R60 and R61 decode to the instructions they stand for. -/
def Obligations.WrittenWordsDecode : Prop :=
  decode (.request 0x03 []) = .ok .sleep ∧
  decode (.request 0x05 [.binary64 0x3FD999999999999A]) = .ok (.dim (some 0x3FD999999999999A)) ∧
  decode (.request 0x07 [.int 16, .int 287, .int 0, .int 239]) = .ok (.setWindow 16 287 0 239) ∧
  decode (.request 0x0A [.int 255, .int 0, .int 0]) = .ok (.packRgb565 255 0 0) ∧
  decode (.request 0x12 []) = .ok (.reservedRsv 1 2) ∧
  decode (.wire 0x2A [0x00, 0x10, 0x01, 0x1F]) = .ok (.caset 0x0010 0x011F) ∧
  decode (.wire 0x36 [0x70]) = .ok (.madctl 0 1 1 1 0 0) ∧
  decode (.wire 0xB2 [0x0C, 0x0D, 0x01, 0x34, 0x56]) = .ok (.porctrl 0x0C 0x0D 1 3 4 5 6) ∧
  decode (.wire 0xD0 [0xA4, 0xA1]) = .ok (.pwctrl1 2 2 1)

/-- Decoding the encoding of a well-formed instruction gives it back: every instruction, every operand. -/
def Obligations.DecodeOfEncodeIsTheInstruction : Prop :=
  ∀ i : Instr, i.wf = true → decode (encode i) = .ok i

/-- The other direction, for wire commands: an opcode and parameter bytes that decode are well-formed and are exactly
what the encoder gives (R60, R61: reserved bits 0, fixed byte, masks, lengths). -/
def Obligations.DecodedWireBytesAreTheEncoding : Prop :=
  ∀ (op : Byte) (ps : List Byte) (i : Instr), decode (.wire op ps) = .ok i →
    i.wf = true ∧ encode i = .wire op ps

/-- The other direction, for host requests (R55 to R57): a request decodes to no wire command, and where its header is
not reserved its header and operands are exactly what the encoder gives. -/
def Obligations.DecodedRequestsAreTheEncoding : Prop :=
  ∀ (h : Byte) (ops : List Operand) (i : Instr), decode (.request h ops) = .ok i →
    i.wf = true ∧ isWire i = false ∧
      (headerRsv h = 0 → (headerOp h).toNat < 0xB → encode i = .request h ops)

/-- R175: a header with OP in 0xB..0xF or a non-zero RSV is refused with the header byte, whatever operands travel
with it: no event, no register write. -/
def Obligations.ReservedHeadersAreRefused : Prop :=
  ∀ (h : Byte) (ops : List Operand) (s : State), (headerRsv h ≠ 0 ∨ 0xB ≤ (headerOp h).toNat) → s.hung = none →
    ∃ i, decode (.request h ops) = .ok i ∧ exec i s = .next (untouched s (.refused h))

/-- The reserved requests (RESERVED 0x0B, RESERVED 0x0C..0x0F, RESERVED_RSV) end with Refused of their header, in every
MODE, and do nothing else (R65, R175). -/
def Obligations.ReservedRequestsEndRefused : Prop :=
  ∀ s : State, s.hung = none →
    exec .reservedB s = .next (untouched s (.refused 0x0B)) ∧
    (∀ lo : BitVec 2, exec (.reservedCToF lo) s = .next (untouched s (.refused (0b000011#6 ++ lo)))) ∧
    (∀ rsv op : BitVec 4, exec (.reservedRsv rsv op) s = .next (untouched s (.refused (rsv ++ op))))

/-- R60: each wire command is encoded with its own opcode and its own number of parameter bytes (`wireRow` is the
table, row by row), and no host request is encoded as a wire command. -/
def Obligations.WireCommandsHaveTheTablesLengths : Prop :=
  (∀ (i : Instr) (op : Byte) (n : Nat), wireRow i = some (op, n) → ∃ ps, encode i = .wire op ps ∧ ps.length = n) ∧
  (∀ i : Instr, wireRow i = none → ∃ h ops, encode i = .request h ops)

/-- R133 to R143: the bring-up commands of a legal record, in order, are the opcodes and bytes of those rules, and
every reserved bit of R61 is 0; VDVVRHEN's second byte, where C2_TRAILER has one, is 0xFF (D21). -/
def Obligations.BringUpCommandsCarryTheRulesBytes : Prop :=
  ∀ c : Cfg, cfgLegal c = true →
    (bringUpCommands c).map encode = (bringUp c).map (fun p => Item.wire p.1 p.2) ∧
    (∀ b ∈ madctlBytes c, b &&& 0x03 = 0) ∧ (∀ b ∈ colmodBytes c, b &&& 0x88 = 0) ∧
    (∀ b ∈ gateBytes c, b &&& 0x88 = 0) ∧ (∀ b ∈ vcomBytes c, b &&& 0xC0 = 0) ∧
    (∀ b ∈ lcmBytes c, b &&& 0x80 = 0) ∧ (∀ b ∈ vrhBytes c, b &&& 0xC0 = 0) ∧
    (∀ b ∈ vdvBytes c, b &&& 0xC0 = 0) ∧ (∀ b ∈ (powerBytes c).drop 1, b &&& 0x0C = 0) ∧
    (∀ b ∈ (porchBytes c).take 2, b &&& 0x80 = 0) ∧ (∀ b ∈ ((porchBytes c).drop 2).take 1, b &&& 0xFE = 0) ∧
    (∀ b ∈ (vdvVrhEnBytes c).take 1, b &&& 0xFE = 0) ∧ (∀ b ∈ (vdvVrhEnBytes c).drop 1, b = 0xFF)

/-- R130: the 61 fields in check order, each with its name, its width or mask, and its value. -/
def Obligations.ConfigurationTableIsTheRules : Prop :=
  ∀ c : Cfg, (cfgTable c).map (fun r => (r.name.text, r.range.text, r.value)) =
    [("madctl.my", "0..1", c.madctl.my), ("madctl.mx", "0..1", c.madctl.mx), ("madctl.mv", "0..1", c.madctl.mv),
      ("madctl.ml", "0..1", c.madctl.ml), ("madctl.rgb", "0..1", c.madctl.rgb), ("madctl.mh", "0..1", c.madctl.mh),
      ("colmod.rgb_if", "0..7", c.colmod.rgbIf), ("colmod.ctrl_if", "0..7", c.colmod.ctrlIf)] ++
    [("porch.bpa", "0..127", c.porch.bpa), ("porch.fpa", "0..127", c.porch.fpa), ("porch.psen", "0..1", c.porch.psen),
      ("porch.bpb", "0..15", c.porch.bpb), ("porch.fpb", "0..15", c.porch.fpb), ("porch.bpc", "0..15", c.porch.bpc),
      ("porch.fpc", "0..15", c.porch.fpc), ("gate.vghs", "0..7", c.gate.vghs), ("gate.vgls", "0..7", c.gate.vgls),
      ("vcom.vcoms", "0..63", c.vcoms)] ++
    [("lcm.xmy", "0..1", c.lcm.xmy), ("lcm.xbgr", "0..1", c.lcm.xbgr), ("lcm.xinv", "0..1", c.lcm.xinv),
      ("lcm.xmx", "0..1", c.lcm.xmx), ("lcm.xmh", "0..1", c.lcm.xmh), ("lcm.xmv", "0..1", c.lcm.xmv),
      ("lcm.xgs", "0..1", c.lcm.xgs), ("vdvvrh.cmden", "0..1", c.cmden), ("vrh.vrhs", "0..63", c.vrhs),
      ("vdv.vdvs", "0..63", c.vdvs)] ++
    [("frctrl.nla", "0..7", c.frctrl.nla), ("frctrl.rtna", "0..31", c.frctrl.rtna),
      ("power.avdd", "0..3", c.power.avdd), ("power.avcl", "0..3", c.power.avcl), ("power.vds", "0..3", c.power.vds)] ++
    [("pgamma.pgam[1]", "bits of M[1]", c.pgamma.c1), ("pgamma.pgam[2]", "bits of M[2]", c.pgamma.c2),
      ("pgamma.pgam[3]", "bits of M[3]", c.pgamma.c3), ("pgamma.pgam[4]", "bits of M[4]", c.pgamma.c4),
      ("pgamma.pgam[5]", "bits of M[5]", c.pgamma.c5), ("pgamma.pgam[6]", "bits of M[6]", c.pgamma.c6),
      ("pgamma.pgam[7]", "bits of M[7]", c.pgamma.c7), ("pgamma.pgam[8]", "bits of M[8]", c.pgamma.c8),
      ("pgamma.pgam[9]", "bits of M[9]", c.pgamma.c9), ("pgamma.pgam[10]", "bits of M[10]", c.pgamma.c10),
      ("pgamma.pgam[11]", "bits of M[11]", c.pgamma.c11), ("pgamma.pgam[12]", "bits of M[12]", c.pgamma.c12),
      ("pgamma.pgam[13]", "bits of M[13]", c.pgamma.c13), ("pgamma.pgam[14]", "bits of M[14]", c.pgamma.c14)] ++
    [("ngamma.ngam[1]", "bits of M[1]", c.ngamma.c1), ("ngamma.ngam[2]", "bits of M[2]", c.ngamma.c2),
      ("ngamma.ngam[3]", "bits of M[3]", c.ngamma.c3), ("ngamma.ngam[4]", "bits of M[4]", c.ngamma.c4),
      ("ngamma.ngam[5]", "bits of M[5]", c.ngamma.c5), ("ngamma.ngam[6]", "bits of M[6]", c.ngamma.c6),
      ("ngamma.ngam[7]", "bits of M[7]", c.ngamma.c7), ("ngamma.ngam[8]", "bits of M[8]", c.ngamma.c8),
      ("ngamma.ngam[9]", "bits of M[9]", c.ngamma.c9), ("ngamma.ngam[10]", "bits of M[10]", c.ngamma.c10),
      ("ngamma.ngam[11]", "bits of M[11]", c.ngamma.c11), ("ngamma.ngam[12]", "bits of M[12]", c.ngamma.c12),
      ("ngamma.ngam[13]", "bits of M[13]", c.ngamma.c13), ("ngamma.ngam[14]", "bits of M[14]", c.ngamma.c14)]

/-- R113 and R64: what is legal of a field of width `w`, and of gamma coefficient `k`. -/
def Obligations.FieldLegality : Prop :=
  (∀ (n : ArgName) (w : Nat) (v : Int),
    (⟨n, .bits w, v⟩ : FieldCheck).legal = true ↔ 0 ≤ v ∧ v ≤ 2 ^ w - 1) ∧
  (∀ (n : ArgName) (k : Nat) (v : Int), 1 ≤ k → k ≤ 14 →
    ((⟨n, .maskBits k, v⟩ : FieldCheck).legal = true ↔
      0 ≤ v ∧ ∀ j, v.toNat.testBit j = true →
        ([0xFF, 0x3F, 0x3F, 0x1F, 0x1F, 0x3F, 0x7F, 0x77, 0x7F, 0x3F, 0x1F, 0x1F, 0x3F, 0x3F].getD (k - 1)
          0).testBit j = true))

/-! ### The step and the run -/

/-- The step runs the host's next item: an item that decodes is exec of its instruction at that state, with nothing
around it; an item that decodes to none is refused by name; where the host has no item nothing happens. The last two
clauses are the model's choices (log entries 6, 9 and 12). -/
def Obligations.StepRunsTheNextItem : Prop :=
  (∀ (s : State) (it : Item) (i : Instr), s.reqs[s.pc]? = some it → decode it = .ok i → step s = exec i s) ∧
  (∀ (s : State) (it : Item) (e : DecodeError), s.reqs[s.pc]? = some it → decode it = .error e →
    step s = .refused (.undecodable e)) ∧
  (∀ s : State, s.reqs[s.pc]? = none → step s = .next s)

/-- R190: the power-on state, and no request issued. -/
def Obligations.PowerOnState : Prop :=
  core.reset.mode = .uninitialized ∧ core.reset.cspace = .noValue ∧ core.reset.duty = .noValue ∧
  core.reset.cs = .unknown ∧ core.reset.dc = .unknown ∧ core.reset.rst = .unknown ∧ core.reset.pwm = .unknown ∧
  core.reset.trace = [] ∧ core.reset.pc = 0 ∧ core.reset.seq = 0

/-- R176: a transport call that never returns leaves its request without an outcome for ever, and no later request
runs: the run stays as it is, however many steps follow. -/
def Obligations.HangLeavesNoOutcomeForEver : Prop :=
  ∀ (s t : State) (e : Event), s.hung = none → step s = .next t → t.hung = some e →
    t.outcomes = s.outcomes ∧ t.pc = s.pc ∧ ∀ k : Nat, core.run k t = .next t

/-- R27: pc advances by exactly 1 when a request ends, whatever its outcome, and not while one hangs; and the host
receives exactly one outcome for a request that ended, none for one that hangs (R170, R176). -/
def Obligations.PcAdvancesOncePerOutcome : Prop :=
  ∀ (i : Instr) (s t : State), s.hung = none → exec i s = .next t →
    (t.hung = none ∧ t.pc = s.pc + 1 ∧ ∃ o, t.outcomes = s.outcomes ++ [o]) ∨
    ((∃ e, t.hung = some e) ∧ t.pc = s.pc ∧ t.outcomes = s.outcomes)

/-! ### Emit and SendCmd -/

/-- R44: the three outcomes of a transport call. -/
def Obligations.EmitOutcomes : Prop :=
  (∀ (e : Event) (s : State) (as : List Answer), s.answers = .completes :: as →
    ∃ t, emit e s = .going t ∧ t.trace = s.trace ++ [.ok e] ∧ t.answers = as) ∧
  (∀ (e : Event) (n : Nat) (s : State) (as : List Answer), s.answers = .fails n :: as →
    ∃ t, emit e s = .ended (.transportError e) t ∧ t.trace = s.trace ++ [.failed e] ∧ t.answers = as) ∧
  (∀ (e : Event) (n : Nat) (s : State) (as : List Answer), s.answers = .never n :: as →
    ∃ t, emit e s = .stuck e t ∧ t.trace = s.trace ∧ t.outcomes = s.outcomes ∧ t.pc = s.pc)

/-- R110: the events of SendCmd, in order, each phase in its own CS bracket; present but empty data sends no data
phase; afterwards CS = 1, and DC = 1 when a data phase was sent, else 0. -/
def Obligations.SendCmdSendsItsPhases : Prop :=
  ∀ (op : Byte) (data : Option (List Byte)) (s : State) (as : List Answer),
    s.answers = List.replicate (cmd op (data.getD [])).length .completes ++ as →
    ∃ t, sendCmd op data s = .going t ∧ t.trace = s.trace ++ (cmd op (data.getD [])).map .ok ∧
      t.cs = .driven .high ∧ t.dc = .driven (if data.getD [] = [] then .low else .high)

/-! ### Whole-machine rules -/

/-- R18 and R178: a request that ends in InvalidArgument, InvalidState or Refused has emitted no event and changed no
register. -/
def Obligations.RejectedRequestsTouchNothing : Prop :=
  ∀ (i : Instr) (s t : State) (o : Reply), s.hung = none → exec i s = .next t → t.outcomes = s.outcomes ++ [o] →
    quiet o = true → t = untouched s o

/-- R52: when a request ends with Ok, every transport call it made has completed. -/
def Obligations.OkMeansEveryCallCompleted : Prop :=
  ∀ (i : Instr) (s t : State) (v : Value), s.hung = none → exec i s = .next t →
    t.outcomes = s.outcomes ++ [.ok v] →
    ∃ done : List Event, t.trace = s.trace ++ done.map .ok ∧ t.seq = done.length

/-- R173: a TransportError carries the failing event; the trace keeps `Failed(e)` and every entry before it, and
nothing comes after it (R178). -/
def Obligations.TransportErrorKeepsThePrefix : Prop :=
  ∀ (i : Instr) (s t : State) (e : Event), s.hung = none → exec i s = .next t →
    t.outcomes = s.outcomes ++ [.transportError e] →
    ∃ done : List Event, t.trace = s.trace ++ done.map .ok ++ [.failed e] ∧ t.seq = done.length + 1

/-- R26 and R28: TRACE only grows, by the entries of the calls SEQ counts, and each of them used up one answer of the
transport. -/
def Obligations.TraceGrowsBySeq : Prop :=
  ∀ (i : Instr) (s t : State), s.hung = none → exec i s = .next t →
    ∃ new : List Entry, t.trace = s.trace ++ new ∧ t.seq = new.length ∧
      t.answers = s.answers.drop t.seq

/-- R51: whatever the transport answers, an instruction's calls are a first part of its sequence, in the sequence's
order: each completed, or all but a last one that failed. `d` is what DUTY holds, where it holds a value. -/
def Obligations.CallsFollowTheSequence : Prop :=
  ∀ (i : Instr) (s t : State) (d : U16), (∀ d', s.duty = .value d' → d' = d) → s.hung = none →
    exec i s = .next t →
    ∃ done : List Event,
      (done <+: sequenceOf i d ∧ t.trace = s.trace ++ done.map .ok) ∨
      (∃ e, done ++ [e] <+: sequenceOf i d ∧ t.trace = s.trace ++ done.map .ok ++ [.failed e])

/-- When every transport call returns, every instruction ends with one outcome (R176, R207): the longest sequence has
148 calls. -/
def Obligations.RequestEndsWhenCallsReturn : Prop :=
  ∀ (i : Instr) (s : State), Valued s → s.hung = none → 148 ≤ s.answers.length →
    (∀ a ∈ s.answers, ∀ n, a ≠ .never n) →
    ∃ t o, exec i s = .next t ∧ t.hung = none ∧ t.pc = s.pc + 1 ∧ t.outcomes = s.outcomes ++ [o]

/-- R33: where the invariant holds, no request reads a register without a value, so no step faults. -/
def Obligations.NoReadWithoutAValue : Prop :=
  ∀ (s : State) (f : Fault), Valued s → step s ≠ .fault f

/-- R174: every request except INIT, PACK_COLOR and PACK_RGB565 ends with InvalidState while MODE is Uninitialized,
before any event and any register write. -/
def Obligations.SetupCheckComesFirst : Prop :=
  ∀ (i : Instr) (s : State), hasSetupCheck i = true → s.hung = none → s.mode = .uninitialized →
    exec i s = .next (untouched s .invalidState)

/-- R44, R48: the bytes that reached the panel are those of every completed bus write, in the calls' order, then a first
part of a last bus write that failed: for every instruction and every answer of the transport. That the bytes of a bus
write that never returned are a first part too (the third case), and the record onBus itself, are the model's choice,
log entry 3: R44(c) says nothing of those bytes, and R48 speaks of a failed write only. -/
def Obligations.BusBytesAreWhatTheCallsDelivered : Prop :=
  ∀ (i : Instr) (s t : State), s.hung = none → exec i s = .next t →
    ∃ done : List Event,
      (t.trace = s.trace ++ done.map .ok ∧ t.hung = none ∧ t.onBus = s.onBus ++ done.flatMap busBytes) ∨
      (∃ e n, t.trace = s.trace ++ done.map .ok ++ [.failed e] ∧ t.hung = none ∧
        t.onBus = s.onBus ++ done.flatMap busBytes ++ (busBytes e).take n) ∨
      (∃ e n, t.trace = s.trace ++ done.map .ok ∧ t.hung = some e ∧
        t.onBus = s.onBus ++ done.flatMap busBytes ++ (busBytes e).take n)

/-! ### Invariants every step keeps -/

/-- Where MODE is not Uninitialized, CSPACE and DUTY hold values (R33). -/
def Obligations.StepKeepsValued : Prop :=
  ∀ s t : State, Valued s → step s = .next t → Valued t

/-- The host has one outcome for each ended request (R27, R208). -/
def Obligations.StepKeepsOutcomesCounted : Prop :=
  ∀ s t : State, Counted s → step s = .next t → Counted t

/-- CS, DC, RST and PWM hold what TRACE last did to them (R24, R25). -/
def Obligations.StepKeepsLevelsMatchingTrace : Prop :=
  ∀ s t : State, LevelsMatchTrace s → step s = .next t → LevelsMatchTrace t

/-- Every bus write of TRACE stands in a CS-low bracket of its own, DC set before it; a command phase is one byte
(R59, R66, R110, R194). -/
def Obligations.StepKeepsBusWritesBracketed : Prop :=
  ∀ s t : State, Bracketed s.trace → step s = .next t → Bracketed t.trace

/-- The four invariants hold at power-on. -/
def Obligations.PowerOnMeetsTheInvariants : Prop :=
  Valued State.reset ∧ Counted State.reset ∧ LevelsMatchTrace State.reset ∧ Bracketed State.reset.trace

/-! ### Frames -/

/-- R21, R22, R23: no instruction but INIT, SLEEP and WAKE writes MODE; none but INIT writes CSPACE; none but INIT and
DIM with an operand writes DUTY. -/
def Obligations.OnlyTheirRequestsWriteModeCspaceDuty : Prop :=
  ∀ (i : Instr) (s t : State), exec i s = .next t →
    ((∀ c, i ≠ .init c) → i ≠ .sleep → i ≠ .wake → t.mode = s.mode) ∧
    ((∀ c, i ≠ .init c) → t.cspace = s.cspace) ∧
    ((∀ c, i ≠ .init c) → (∀ b, i ≠ .dim (some b)) → t.duty = s.duty)

/-- No instruction changes the host's requests, nor takes back an outcome (R26, R207, R208): the frame of INIT, which
writes every register, and of all the others. -/
def Obligations.NoInstructionChangesTheProgram : Prop :=
  ∀ (i : Instr) (s t : State), exec i s = .next t → t.reqs = s.reqs ∧ s.outcomes <+: t.outcomes ∧ s.trace <+: t.trace

/-- R193: INIT is the only instruction that drives RST. -/
def Obligations.OnlyInitDrivesReset : Prop :=
  ∀ (i : Instr) (s t : State), (∀ c, i ≠ .init c) → exec i s = .next t →
    t.rst = s.rst ∧ ∀ x ∈ t.trace.drop s.trace.length, ∀ l, x.event ≠ .setRST l

/-- Frame of COLOR_SPACE, PACK_COLOR, PACK_RGB565, MAKE_FRAME_BUFFER and the reserved headers: only SEQ, pc and the
host's outcomes change (R80, R81, R82, R90, R65: no state written, no event). -/
def Obligations.FrameOfValueRequests : Prop :=
  ∀ (i : Instr) (s t : State),
    (i = .colorSpace ∨ i = .makeFrameBuffer ∨ (∃ r g b, i = .packColor r g b) ∨ (∃ r g b, i = .packRgb565 r g b) ∨
      i = .reservedB ∨ (∃ lo, i = .reservedCToF lo) ∨ ∃ r o, i = .reservedRsv r o) →
    exec i s = .next t → t = { s with seq := t.seq, pc := t.pc, outcomes := t.outcomes }

/-- Frame of SHOW, SEND_COMMAND, SET_WINDOW and the 21 wire commands: CS, DC, TRACE, SEQ, pc, the host's outcomes, the
transport's answers, the bus bytes and a hang may change, and nothing else (R93, R111, R112, R122). -/
def Obligations.FrameOfBusSenders : Prop :=
  ∀ (i : Instr) (s t : State),
    ((∃ b, i = .showFrame b) ∨ (∃ o d, i = .sendCommand o d) ∨ (∃ a b c d, i = .setWindow a b c d) ∨
      isWire i = true) →
    exec i s = .next t →
    t.mode = s.mode ∧ t.cspace = s.cspace ∧ t.duty = s.duty ∧ t.rst = s.rst ∧ t.pwm = s.pwm ∧ t.reqs = s.reqs

/-- Frame of SLEEP, WAKE and DIM: SLEEP and WAKE leave CSPACE, DUTY, RST; DIM leaves MODE, CSPACE, CS, DC, RST and the
bus bytes, and DUTY too when it has no operand; none touches the host's requests (R100, R101, R102). -/
def Obligations.FrameOfPowerRequests : Prop :=
  (∀ (i : Instr) (s t : State), (i = .sleep ∨ i = .wake) → exec i s = .next t →
    t.cspace = s.cspace ∧ t.duty = s.duty ∧ t.rst = s.rst ∧ t.reqs = s.reqs) ∧
  (∀ (b : Option (BitVec 64)) (s t : State), exec (.dim b) s = .next t →
    t.mode = s.mode ∧ t.cspace = s.cspace ∧ t.cs = s.cs ∧ t.dc = s.dc ∧ t.rst = s.rst ∧ t.onBus = s.onBus ∧
      t.reqs = s.reqs ∧ (b = none → t.duty = s.duty))

/-! ### INIT -/

/-- INIT of a legal record, every call completing, from any MODE: the whole sequence, then CSPACE, DUTY and PWM at D0,
MODE Awake (R131). -/
def Obligations.InitCompletes : Prop :=
  ∀ (c : Cfg) (s : State) (rest : List Answer), cfgLegal c = true → Completing 148 rest s →
    exec (.init c) s = .next { s with
      mode := .awake, cspace := .value .rgb565, duty := .value Config.d0, pwm := .duty Config.d0
      rst := .driven .high, cs := .driven .high, dc := .driven .low
      trace := s.trace ++ (initEvents c).map .ok
      onBus := s.onBus ++ (bringUp c).flatMap fun p => p.1 :: p.2
      seq := 148, pc := s.pc + 1, outcomes := s.outcomes ++ [.ok .none], answers := rest }

/-- R191: after an INIT that ends with Ok, from any prior state. -/
def Obligations.StateAfterInitEndsWithOk : Prop :=
  ∀ (c : Cfg) (s t : State) (v : Value), s.hung = none → exec (.init c) s = .next t →
    t.outcomes = s.outcomes ++ [.ok v] →
    t.mode = .awake ∧ t.cspace = .value .rgb565 ∧ t.duty = .value Config.d0 ∧ t.pwm = .duty Config.d0 ∧
    t.rst = .driven .high ∧ t.cs = .driven .high ∧ t.dc = .driven .low ∧
    t.trace = s.trace ++ (initEvents c).map .ok ∧ (initEvents c).length = 148

/-- R149: INIT of a record whose first illegal field, in the table's order, is `f` ends with InvalidArgument naming it
and its range, nothing emitted and nothing written, whatever MODE is. -/
def Obligations.InitRefusesTheFirstIllegalField : Prop :=
  ∀ (c : Cfg) (s : State) (before after : List FieldCheck) (f : FieldCheck), s.hung = none →
    cfgTable c = before ++ f :: after → (before.all fun r => r.legal) = true → f.legal = false →
    exec (.init c) s = .next (untouched s (.invalidArgument f.name f.range))

/-- R131: after a TransportError of INIT, and where one of its calls never returns, MODE is Uninitialized; CSPACE and
DUTY are as before, or where it was the last call, which applies the duty, RGB565 and D0. -/
def Obligations.FailedInitLeavesUninitialized : Prop :=
  ∀ (c : Cfg) (s t : State) (e : Event), s.hung = none → exec (.init c) s = .next t →
    (t.outcomes = s.outcomes ++ [.transportError e] ∨ t.hung = some e) →
    t.mode = .uninitialized ∧
      (e ≠ .pwmDuty Config.d0 → t.cspace = s.cspace ∧ t.duty = s.duty) ∧
      (e = .pwmDuty Config.d0 → t.cspace = .value .rgb565 ∧ t.duty = .value Config.d0)

/-! ### Colour space and frame buffer -/

/-- R80: COLOR_SPACE. -/
def Obligations.ColorSpaceReportsCspace : Prop :=
  decode (.request 0x08 []) = .ok .colorSpace ∧
  (∀ s : State, s.hung = none → s.mode = .uninitialized → exec .colorSpace s = .next (untouched s .invalidState)) ∧
  (∀ (s : State) (c : ColorSpace), s.hung = none → s.mode ≠ .uninitialized → s.cspace = .value c →
    c = .rgb565 ∧ exec .colorSpace s = .next (untouched s (.ok (.colorSpace .rgb565))))

/-- R81: PACK_COLOR, in every MODE: the 24-bit value, or InvalidArgument naming the first channel outside 0..255. -/
def Obligations.PackColorValue : Prop :=
  decode (.request 0x09 [.int 1, .int 2, .int 3]) = .ok (.packColor 1 2 3) ∧
  (ValidRange.bits 8).text = "0..255" ∧ ArgName.red.text = "red" ∧ ArgName.green.text = "green" ∧
  ArgName.blue.text = "blue" ∧
  ∀ (r g b : Int) (s : State), s.hung = none →
    (LegalChannel r → LegalChannel g → LegalChannel b →
      exec (.packColor r g b) s = .next (untouched s (.ok (.color24
        (BitVec.ofNat 24 (r.toNat ||| (g.toNat <<< 8) ||| (b.toNat <<< 16))))))) ∧
    (¬ LegalChannel r → exec (.packColor r g b) s = .next (untouched s (.invalidArgument .red (.bits 8)))) ∧
    (LegalChannel r → ¬ LegalChannel g →
      exec (.packColor r g b) s = .next (untouched s (.invalidArgument .green (.bits 8)))) ∧
    (LegalChannel r → LegalChannel g → ¬ LegalChannel b →
      exec (.packColor r g b) s = .next (untouched s (.invalidArgument .blue (.bits 8))))

/-- R82: PACK_RGB565, in every MODE: the 16-bit value, its three fields, or InvalidArgument as in R81. -/
def Obligations.PackRgb565Value : Prop :=
  decode (.request 0x0A [.int 1, .int 2, .int 3]) = .ok (.packRgb565 1 2 3) ∧
  ∀ (r g b : Int) (s : State), s.hung = none →
    (LegalChannel r → LegalChannel g → LegalChannel b →
      ∃ v : BitVec 16, exec (.packRgb565 r g b) s = .next (untouched s (.ok (.pixel16 v))) ∧
        v.toNat = ((r.toNat &&& 0xF8) <<< 8) ||| ((g.toNat &&& 0xFC) <<< 3) ||| (b.toNat >>> 3) ∧
        v.toNat / 2 ^ 11 = r.toNat / 8 ∧ v.toNat / 2 ^ 5 % 64 = g.toNat / 4 ∧ v.toNat % 32 = b.toNat / 8) ∧
    (¬ LegalChannel r → exec (.packRgb565 r g b) s = .next (untouched s (.invalidArgument .red (.bits 8)))) ∧
    (LegalChannel r → ¬ LegalChannel g →
      exec (.packRgb565 r g b) s = .next (untouched s (.invalidArgument .green (.bits 8)))) ∧
    (LegalChannel r → LegalChannel g → ¬ LegalChannel b →
      exec (.packRgb565 r g b) s = .next (untouched s (.invalidArgument .blue (.bits 8))))

/-- R90: MAKE_FRAME_BUFFER returns a buffer of the panel's size, 115200 zero bytes, the same in Awake and Asleep. -/
def Obligations.MakeFrameBufferSizedToPanel : Prop :=
  decode (.request 0x01 []) = .ok .makeFrameBuffer ∧
  (∀ s : State, s.hung = none → s.mode = .uninitialized →
    exec .makeFrameBuffer s = .next (untouched s .invalidState)) ∧
  (∀ s : State, s.hung = none → s.mode ≠ .uninitialized → s.cspace = .value .rgb565 →
    exec .makeFrameBuffer s =
      .next (untouched s (.ok (.frameBuffer ⟨240, 240, .rgb565, 240, List.replicate 115200 0⟩))))

/-- SHOW, every call completing, in Awake and Asleep alike: the full-panel window 0..0xEF, then RAMWR with the bytes
unchanged, no length check; an empty region sends RAMWR's command phase only (R91 to R93). -/
def Obligations.ShowSendsWindowThenPixels : Prop :=
  ∀ (buf : List Byte) (s : State) (rest : List Answer), s.mode ≠ .uninitialized →
    Completing (if buf = [] then 25 else 30) rest s →
    exec (.showFrame buf) s = .next { s with
      cs := .driven .high, dc := .driven (if buf = [] then .low else .high)
      trace := s.trace ++
        (cmd 0x2A [0x00, 0x00, 0x00, 0xEF] ++ cmd 0x2B [0x00, 0x00, 0x00, 0xEF] ++ cmd 0x2C buf).map .ok
      onBus := s.onBus ++ [0x2A, 0x00, 0x00, 0x00, 0xEF, 0x2B, 0x00, 0x00, 0x00, 0xEF, 0x2C] ++ buf
      seq := if buf = [] then 25 else 30
      pc := s.pc + 1, outcomes := s.outcomes ++ [.ok .none], answers := rest }

/-- R48: when a bus write fails, any prefix of its bytes may have reached the panel: whatever number `n` of them the
transport delivered, the call with exactly those is a call of the model, with the same entry and outcome. First for
every bus write of every request, as the call each of them makes; then for SHOW's pixel write, as a whole request. -/
def Obligations.AnyPrefixOfAFailedWriteMayArrive : Prop :=
  (∀ (bs : List Byte) (n : Nat) (s : State) (rest : List Answer), s.answers = .fails n :: rest →
    emit (.spiWrite bs) s = .ended (.transportError (.spiWrite bs)) { s with
      trace := s.trace ++ [.failed (.spiWrite bs)], onBus := s.onBus ++ bs.take n
      seq := s.seq + 1, answers := rest }) ∧
  (∀ (buf : List Byte) (n : Nat) (s : State) (rest : List Answer), buf ≠ [] → s.mode ≠ .uninitialized →
    s.hung = none → s.answers = List.replicate 28 .completes ++ .fails n :: rest →
    exec (.showFrame buf) s = .next { s with
      cs := .driven .low, dc := .driven .high
      trace := s.trace ++ ((showEvents buf).take 28).map .ok ++ [.failed (.spiWrite buf)]
      onBus := s.onBus ++ [0x2A, 0x00, 0x00, 0x00, 0xEF, 0x2B, 0x00, 0x00, 0x00, 0xEF, 0x2C] ++ buf.take n
      seq := 29, pc := s.pc + 1, outcomes := s.outcomes ++ [.transportError (.spiWrite buf)], answers := rest })

/-- R68: when MODE is not Uninitialized and the buffer is not empty, SHOW emits the same events as SET_WINDOW of the full
panel followed by SEND_COMMAND 0x2C with the buffer (every call completing). -/
def Obligations.ShowEqualsWindowThenMemoryWrite : Prop :=
  ∀ (buf : List Byte) (s : State) (rest : List Answer), buf ≠ [] → s.mode ≠ .uninitialized →
    Completing 30 rest s →
    ∃ t u v, exec (.showFrame buf) s = .next t ∧ exec (.setWindow 0 239 0 239) s = .next u ∧
      exec (.sendCommand 0x2C (some buf)) u = .next v ∧ t.trace = v.trace ∧ t.cs = v.cs ∧ t.dc = v.dc ∧
      t.onBus = v.onBus

/-! ### Power and brightness -/

/-- SLEEP, every call completing, from Awake or Asleep: duty 0, DISPOFF, SLPIN, then MODE Asleep; DUTY keeps its value
(R100). -/
def Obligations.SleepDarkensThenPowersDown : Prop :=
  ∀ (s : State) (rest : List Answer), s.mode ≠ .uninitialized → Completing 11 rest s →
    exec .sleep s = .next { s with
      mode := .asleep, pwm := .duty 0, cs := .driven .high, dc := .driven .low
      trace := s.trace ++ ([Event.pwmDuty 0] ++ cmd 0x28 [] ++ cmd 0x10 []).map .ok
      onBus := s.onBus ++ [0x28, 0x10]
      seq := 11, pc := s.pc + 1, outcomes := s.outcomes ++ [.ok .none], answers := rest }

/-- WAKE, every call completing, from Asleep or Awake: SLPOUT, DISPON, the stored duty, then MODE Awake (R101). -/
def Obligations.WakeRestoresTheStoredDuty : Prop :=
  ∀ (d : U16) (s : State) (rest : List Answer), s.mode ≠ .uninitialized → s.duty = .value d →
    Completing 11 rest s →
    exec .wake s = .next { s with
      mode := .awake, pwm := .duty d, cs := .driven .high, dc := .driven .low
      trace := s.trace ++ (cmd 0x11 [] ++ cmd 0x29 [] ++ [Event.pwmDuty d]).map .ok
      onBus := s.onBus ++ [0x11, 0x29]
      seq := 11, pc := s.pc + 1, outcomes := s.outcomes ++ [.ok .none], answers := rest }

/-- DIM, the call completing: with an operand in [0, 1] it stores DutyOf(b) and applies it; without one it applies the
stored duty unchanged (R102). -/
def Obligations.DimStoresAndApplies : Prop :=
  (∀ (b : BitVec 64) (s : State) (rest : List Answer), s.mode ≠ .uninitialized → inUnitInterval b = true →
    Completing 1 rest s →
    exec (.dim (some b)) s = .next { s with
      duty := .value (dutyOf b), pwm := .duty (dutyOf b), trace := s.trace ++ [.ok (.pwmDuty (dutyOf b))]
      seq := 1, pc := s.pc + 1, outcomes := s.outcomes ++ [.ok .none], answers := rest }) ∧
  (∀ (d : U16) (s : State) (rest : List Answer), s.mode ≠ .uninitialized → s.duty = .value d →
    Completing 1 rest s →
    exec (.dim none) s = .next { s with
      pwm := .duty d, trace := s.trace ++ [.ok (.pwmDuty d)]
      seq := 1, pc := s.pc + 1, outcomes := s.outcomes ++ [.ok .none], answers := rest })

/-- What SLEEP, WAKE and DIM leave when not every call completes (R100, R101, R102, D13): SLEEP and WAKE write MODE last,
so a TransportError or a call that never returns leaves it; DIM with an operand in [0, 1] writes DUTY before its call,
so DUTY holds DutyOf(b) whatever the transport answers. -/
def Obligations.FailedPowerRequestsKeepTheirOrder : Prop :=
  (∀ (i : Instr) (s t : State) (e : Event), (i = .sleep ∨ i = .wake) → s.hung = none → exec i s = .next t →
    (t.outcomes = s.outcomes ++ [.transportError e] ∨ t.hung = some e) → t.mode = s.mode) ∧
  (∀ (b : BitVec 64) (s t : State), inUnitInterval b = true → s.hung = none → s.mode ≠ .uninitialized →
    exec (.dim (some b)) s = .next t → t.duty = .value (dutyOf b)) ∧
  (∀ (b : BitVec 64) (s t : State) (e : Event), inUnitInterval b = true → s.hung = none →
    exec (.dim (some b)) s = .next t → t.outcomes = s.outcomes ++ [.transportError e] →
    t.duty = .value (dutyOf b) ∧ t.pwm = .unknown ∧ e = .pwmDuty (dutyOf b))

/-- DIM with an operand outside [0, 1], NaN among them, ends with InvalidArgument and nothing else; and which bit
patterns those are: a set sign bit but for -0.0, or a magnitude above 1.0's (R102); the error names "brightness" and
"[0, 1]" (R171). -/
def Obligations.DimRefusesOutsideTheUnitInterval : Prop :=
  ArgName.brightness.text = "brightness" ∧ ValidRange.unitInterval.text = "[0, 1]" ∧
  ∀ (b : BitVec 64) (s : State), s.hung = none → s.mode ≠ .uninitialized →
    ((0x3FF0000000000000 < b.toNat ∧ b.toNat ≠ 0x8000000000000000) →
      exec (.dim (some b)) s = .next (untouched s (.invalidArgument .brightness .unitInterval))) ∧
    ((b.toNat ≤ 0x3FF0000000000000 ∨ b.toNat = 0x8000000000000000) → inUnitInterval b = true)

/-- DIM 0.4, SLEEP, WAKE: after a SLEEP and a WAKE whose calls complete, PWM and DUTY hold the duty stored before
(R100, R101; property S9). -/
def Obligations.SleepThenWakeRestoresTheDuty : Prop :=
  ∀ (d : U16) (s : State) (rest : List Answer), s.mode ≠ .uninitialized → s.duty = .value d →
    Completing 22 rest s →
    ∃ t u, exec .sleep s = .next t ∧ exec .wake t = .next u ∧ t.mode = .asleep ∧ t.pwm = .duty 0 ∧
      u.mode = .awake ∧ u.pwm = .duty d ∧ u.duty = .value d

/-- R105: RoundHalfEven rounds to the nearest integer, ties to the even one. -/
def Obligations.RoundHalfEvenIsNearest : Prop :=
  ∀ n d : Nat, 0 < d → RoundsHalfEven n d (roundHalfEven n d)

/-- R105: the first rounding of DutyOf gives a number `q * 2^e` of 53 significant bits, no such number is nearer, and
where the exact one lies half way between two of them, `q` is even. -/
def Obligations.RoundTo53IsNearest : Prop := ∀ n : Nat, RoundsTo53 n (roundTo53 n)

/-- R105: on [0, 1], `significand b / 2^(scale b)` is the value of the binary64 `b`, by the format's fields (exponent
field `e`, fraction `f`: `f / 2^1074`, or `(2^52 + f) / 2^(1075 - e)` where `e` is not 0); DutyOf is in 0..65535, so no
bit is lost; it is the exact product `significand b * 65535 / 2^(scale b)` rounded to 53 significant bits and then to an
integer, each to nearest with ties to even, hence one rounding of that product wherever it is representable; and it has the rule's
values at 0, 1, 0.5, 0.25 and 0.4. -/
def Obligations.DutyOfIsInRangeAndExact : Prop :=
  (dutyOf 0x0000000000000000 = 0 ∧ dutyOf 0x3FF0000000000000 = 65535 ∧ dutyOf 0x3FE0000000000000 = 32768 ∧
    dutyOf 0x3FD0000000000000 = 16384 ∧ dutyOf 0x3FD999999999999A = 26214) ∧
  ∀ b : BitVec 64, inUnitInterval b = true →
    ((b.extractLsb' 52 11).toNat = 0 → significand b = (b.extractLsb' 0 52).toNat ∧ scale b = 1074) ∧
    ((b.extractLsb' 52 11).toNat ≠ 0 →
      significand b = 2 ^ 52 + (b.extractLsb' 0 52).toNat ∧ scale b + (b.extractLsb' 52 11).toNat = 1075) ∧
    dutyNumber b ≤ 65535 ∧ (dutyOf b).toNat = dutyNumber b ∧
    (∃ p, RoundsTo53 (significand b * 65535) p ∧ RoundsHalfEven p (2 ^ scale b) (dutyNumber b)) ∧
    (∀ q e : Nat, q < 2 ^ 53 → significand b * 65535 = q * 2 ^ e →
      dutyNumber b = roundHalfEven (significand b * 65535) (2 ^ scale b))

/-! ### Wire protocol and window -/

/-- SEND_COMMAND of an opcode in 0..255, every call completing: exactly those bytes are sent and nothing else changes,
whatever the opcode and the data (R111, R112). -/
def Obligations.SendCommandIsTransparent : Prop :=
  ∀ (opcode : Int) (data : Option (List Byte)) (s : State) (rest : List Answer), s.mode ≠ .uninitialized →
    0 ≤ opcode → opcode ≤ 255 → Completing (if data.getD [] = [] then 5 else 10) rest s →
    exec (.sendCommand opcode data) s = .next { s with
      cs := .driven .high, dc := .driven (if data.getD [] = [] then .low else .high)
      trace := s.trace ++ (cmd (byte opcode.toNat) (data.getD [])).map .ok
      onBus := s.onBus ++ byte opcode.toNat :: data.getD []
      seq := if data.getD [] = [] then 5 else 10
      pc := s.pc + 1, outcomes := s.outcomes ++ [.ok .none], answers := rest }

/-- SEND_COMMAND of an opcode below 0 or above 0xFF ends with InvalidArgument("opcode", "0..255"), nothing emitted
(R111, R171). -/
def Obligations.SendCommandRefusesWideOpcode : Prop :=
  ArgName.opcode.text = "opcode" ∧ (ValidRange.bits 8).text = "0..255" ∧
  ∀ (opcode : Int) (data : Option (List Byte)) (s : State), s.hung = none → s.mode ≠ .uninitialized →
    (opcode < 0 ∨ 255 < opcode) →
    exec (.sendCommand opcode data) s = .next (untouched s (.invalidArgument .opcode (.bits 8)))

/-- R120, R121: SET_WINDOW checks both pairs, the column's first, before either command; legal pairs are sent as CASET
then RASET, high bytes first; an illegal pair fails with InvalidArgument and no command is issued. -/
def Obligations.SetWindowChecksThenSends : Prop :=
  ValidRange.windowPair.text = "0 <= start < end < 0x013F" ∧ ArgName.column.text = "column" ∧
  ArgName.row.text = "row" ∧
  ∀ (xs xe ys ye : Int) (s : State), s.mode ≠ .uninitialized →
    (∀ rest, LegalPair xs xe → LegalPair ys ye → Completing 20 rest s →
      exec (.setWindow xs xe ys ye) s = .next { s with
        cs := .driven .high, dc := .driven .high
        trace := s.trace ++ (windowEvents xs xe ys ye).map .ok
        onBus := s.onBus ++
          [0x2A, byte (xs.toNat / 256), byte xs.toNat, byte (xe.toNat / 256), byte xe.toNat,
            0x2B, byte (ys.toNat / 256), byte ys.toNat, byte (ye.toNat / 256), byte ye.toNat]
        seq := 20, pc := s.pc + 1, outcomes := s.outcomes ++ [.ok .none], answers := rest }) ∧
    (s.hung = none → ¬ LegalPair xs xe →
      exec (.setWindow xs xe ys ye) s = .next (untouched s (.invalidArgument .column .windowPair))) ∧
    (s.hung = none → LegalPair xs xe → ¬ LegalPair ys ye →
      exec (.setWindow xs xe ys ye) s = .next (untouched s (.invalidArgument .row .windowPair)))

/-- Every one of the 21 wire commands (SLPIN, SLPOUT, INVON, DISPOFF, DISPON, CASET, RASET, RAMWR, MADCTL, COLMOD,
PORCTRL, GCTRL, VCOMS, LCMCTRL, VDVVRHEN, VRHS, VDVS, FRCTRL2, PWCTRL1, PVGAMCTRL, NVGAMCTRL), issued by itself with
every call completing, sends its opcode byte with DC low and its parameter bytes, if any, with DC high (R59, R60,
R110). Issuing a wire command by itself is the model's framing (log entry 11). -/
def Obligations.WireCommandsSendTheirBytes : Prop :=
  ∀ (i : Instr) (op : Byte) (ps : List Byte) (s : State) (rest : List Answer), encode i = .wire op ps →
    Completing (if ps = [] then 5 else 10) rest s →
    exec i s = .next { s with
      cs := .driven .high, dc := .driven (if ps = [] then .low else .high)
      trace := s.trace ++ (cmd op ps).map .ok
      onBus := s.onBus ++ op :: ps
      seq := if ps = [] then 5 else 10
      pc := s.pc + 1, outcomes := s.outcomes ++ [.ok .none], answers := rest }
end

