-- ==== Sys2Proof/Laws/State.lean ====
section
/-! SUPPORT. One lemma per field per update of State, so that no proof unfolds a record update. -/

namespace Sys2Proof.Machine

@[simp] theorem State.record_mode (x : Entry) (s : State) : (s.record x).mode = s.mode := rfl
@[simp] theorem State.record_cspace (x : Entry) (s : State) : (s.record x).cspace = s.cspace := rfl
@[simp] theorem State.record_duty (x : Entry) (s : State) : (s.record x).duty = s.duty := rfl
@[simp] theorem State.record_cs (x : Entry) (s : State) : (s.record x).cs = s.cs := rfl
@[simp] theorem State.record_dc (x : Entry) (s : State) : (s.record x).dc = s.dc := rfl
@[simp] theorem State.record_rst (x : Entry) (s : State) : (s.record x).rst = s.rst := rfl
@[simp] theorem State.record_pwm (x : Entry) (s : State) : (s.record x).pwm = s.pwm := rfl
@[simp] theorem State.record_trace (x : Entry) (s : State) : (s.record x).trace = s.trace ++ [x] := rfl
@[simp] theorem State.record_pc (x : Entry) (s : State) : (s.record x).pc = s.pc := rfl
@[simp] theorem State.record_seq (x : Entry) (s : State) : (s.record x).seq = s.seq + 1 := rfl
@[simp] theorem State.record_reqs (x : Entry) (s : State) : (s.record x).reqs = s.reqs := rfl
@[simp] theorem State.record_outcomes (x : Entry) (s : State) : (s.record x).outcomes = s.outcomes := rfl
@[simp] theorem State.record_answers (x : Entry) (s : State) : (s.record x).answers = s.answers.tail := rfl
@[simp] theorem State.record_hung (x : Entry) (s : State) : (s.record x).hung = s.hung := rfl
@[simp] theorem State.record_onBus (x : Entry) (s : State) : (s.record x).onBus = s.onBus := rfl

@[simp] theorem State.close_mode (r : Reply) (s : State) : (s.close r).mode = s.mode := rfl
@[simp] theorem State.close_cspace (r : Reply) (s : State) : (s.close r).cspace = s.cspace := rfl
@[simp] theorem State.close_duty (r : Reply) (s : State) : (s.close r).duty = s.duty := rfl
@[simp] theorem State.close_cs (r : Reply) (s : State) : (s.close r).cs = s.cs := rfl
@[simp] theorem State.close_dc (r : Reply) (s : State) : (s.close r).dc = s.dc := rfl
@[simp] theorem State.close_rst (r : Reply) (s : State) : (s.close r).rst = s.rst := rfl
@[simp] theorem State.close_pwm (r : Reply) (s : State) : (s.close r).pwm = s.pwm := rfl
@[simp] theorem State.close_trace (r : Reply) (s : State) : (s.close r).trace = s.trace := rfl
@[simp] theorem State.close_pc (r : Reply) (s : State) : (s.close r).pc = s.pc + 1 := rfl
@[simp] theorem State.close_seq (r : Reply) (s : State) : (s.close r).seq = s.seq := rfl
@[simp] theorem State.close_reqs (r : Reply) (s : State) : (s.close r).reqs = s.reqs := rfl
@[simp] theorem State.close_outcomes (r : Reply) (s : State) : (s.close r).outcomes = s.outcomes ++ [r] := rfl
@[simp] theorem State.close_answers (r : Reply) (s : State) : (s.close r).answers = s.answers := rfl
@[simp] theorem State.close_hung (r : Reply) (s : State) : (s.close r).hung = s.hung := rfl
@[simp] theorem State.close_onBus (r : Reply) (s : State) : (s.close r).onBus = s.onBus := rfl

@[simp] theorem State.start_mode (s : State) : (s.start).mode = s.mode := rfl
@[simp] theorem State.start_cspace (s : State) : (s.start).cspace = s.cspace := rfl
@[simp] theorem State.start_duty (s : State) : (s.start).duty = s.duty := rfl
@[simp] theorem State.start_cs (s : State) : (s.start).cs = s.cs := rfl
@[simp] theorem State.start_dc (s : State) : (s.start).dc = s.dc := rfl
@[simp] theorem State.start_rst (s : State) : (s.start).rst = s.rst := rfl
@[simp] theorem State.start_pwm (s : State) : (s.start).pwm = s.pwm := rfl
@[simp] theorem State.start_trace (s : State) : (s.start).trace = s.trace := rfl
@[simp] theorem State.start_pc (s : State) : (s.start).pc = s.pc := rfl
@[simp] theorem State.start_seq (s : State) : (s.start).seq = 0 := rfl
@[simp] theorem State.start_reqs (s : State) : (s.start).reqs = s.reqs := rfl
@[simp] theorem State.start_outcomes (s : State) : (s.start).outcomes = s.outcomes := rfl
@[simp] theorem State.start_answers (s : State) : (s.start).answers = s.answers := rfl
@[simp] theorem State.start_hung (s : State) : (s.start).hung = s.hung := rfl
@[simp] theorem State.start_onBus (s : State) : (s.start).onBus = s.onBus := rfl

@[simp] theorem State.setMode_mode (m : Mode) (s : State) : (s.setMode m).mode = m := rfl
@[simp] theorem State.setMode_cspace (m : Mode) (s : State) : (s.setMode m).cspace = s.cspace := rfl
@[simp] theorem State.setMode_duty (m : Mode) (s : State) : (s.setMode m).duty = s.duty := rfl
@[simp] theorem State.setMode_cs (m : Mode) (s : State) : (s.setMode m).cs = s.cs := rfl
@[simp] theorem State.setMode_dc (m : Mode) (s : State) : (s.setMode m).dc = s.dc := rfl
@[simp] theorem State.setMode_rst (m : Mode) (s : State) : (s.setMode m).rst = s.rst := rfl
@[simp] theorem State.setMode_pwm (m : Mode) (s : State) : (s.setMode m).pwm = s.pwm := rfl
@[simp] theorem State.setMode_trace (m : Mode) (s : State) : (s.setMode m).trace = s.trace := rfl
@[simp] theorem State.setMode_pc (m : Mode) (s : State) : (s.setMode m).pc = s.pc := rfl
@[simp] theorem State.setMode_seq (m : Mode) (s : State) : (s.setMode m).seq = s.seq := rfl
@[simp] theorem State.setMode_reqs (m : Mode) (s : State) : (s.setMode m).reqs = s.reqs := rfl
@[simp] theorem State.setMode_outcomes (m : Mode) (s : State) : (s.setMode m).outcomes = s.outcomes := rfl
@[simp] theorem State.setMode_answers (m : Mode) (s : State) : (s.setMode m).answers = s.answers := rfl
@[simp] theorem State.setMode_hung (m : Mode) (s : State) : (s.setMode m).hung = s.hung := rfl
@[simp] theorem State.setMode_onBus (m : Mode) (s : State) : (s.setMode m).onBus = s.onBus := rfl

@[simp] theorem State.setDuty_mode (d : U16) (s : State) : (s.setDuty d).mode = s.mode := rfl
@[simp] theorem State.setDuty_cspace (d : U16) (s : State) : (s.setDuty d).cspace = s.cspace := rfl
@[simp] theorem State.setDuty_duty (d : U16) (s : State) : (s.setDuty d).duty = .value d := rfl
@[simp] theorem State.setDuty_cs (d : U16) (s : State) : (s.setDuty d).cs = s.cs := rfl
@[simp] theorem State.setDuty_dc (d : U16) (s : State) : (s.setDuty d).dc = s.dc := rfl
@[simp] theorem State.setDuty_rst (d : U16) (s : State) : (s.setDuty d).rst = s.rst := rfl
@[simp] theorem State.setDuty_pwm (d : U16) (s : State) : (s.setDuty d).pwm = s.pwm := rfl
@[simp] theorem State.setDuty_trace (d : U16) (s : State) : (s.setDuty d).trace = s.trace := rfl
@[simp] theorem State.setDuty_pc (d : U16) (s : State) : (s.setDuty d).pc = s.pc := rfl
@[simp] theorem State.setDuty_seq (d : U16) (s : State) : (s.setDuty d).seq = s.seq := rfl
@[simp] theorem State.setDuty_reqs (d : U16) (s : State) : (s.setDuty d).reqs = s.reqs := rfl
@[simp] theorem State.setDuty_outcomes (d : U16) (s : State) : (s.setDuty d).outcomes = s.outcomes := rfl
@[simp] theorem State.setDuty_answers (d : U16) (s : State) : (s.setDuty d).answers = s.answers := rfl
@[simp] theorem State.setDuty_hung (d : U16) (s : State) : (s.setDuty d).hung = s.hung := rfl
@[simp] theorem State.setDuty_onBus (d : U16) (s : State) : (s.setDuty d).onBus = s.onBus := rfl

@[simp] theorem State.setCspace_mode (c : ColorSpace) (s : State) : (s.setCspace c).mode = s.mode := rfl
@[simp] theorem State.setCspace_cspace (c : ColorSpace) (s : State) : (s.setCspace c).cspace = .value c := rfl
@[simp] theorem State.setCspace_duty (c : ColorSpace) (s : State) : (s.setCspace c).duty = s.duty := rfl
@[simp] theorem State.setCspace_cs (c : ColorSpace) (s : State) : (s.setCspace c).cs = s.cs := rfl
@[simp] theorem State.setCspace_dc (c : ColorSpace) (s : State) : (s.setCspace c).dc = s.dc := rfl
@[simp] theorem State.setCspace_rst (c : ColorSpace) (s : State) : (s.setCspace c).rst = s.rst := rfl
@[simp] theorem State.setCspace_pwm (c : ColorSpace) (s : State) : (s.setCspace c).pwm = s.pwm := rfl
@[simp] theorem State.setCspace_trace (c : ColorSpace) (s : State) : (s.setCspace c).trace = s.trace := rfl
@[simp] theorem State.setCspace_pc (c : ColorSpace) (s : State) : (s.setCspace c).pc = s.pc := rfl
@[simp] theorem State.setCspace_seq (c : ColorSpace) (s : State) : (s.setCspace c).seq = s.seq := rfl
@[simp] theorem State.setCspace_reqs (c : ColorSpace) (s : State) : (s.setCspace c).reqs = s.reqs := rfl
@[simp] theorem State.setCspace_outcomes (c : ColorSpace) (s : State) : (s.setCspace c).outcomes = s.outcomes := rfl
@[simp] theorem State.setCspace_answers (c : ColorSpace) (s : State) : (s.setCspace c).answers = s.answers := rfl
@[simp] theorem State.setCspace_hung (c : ColorSpace) (s : State) : (s.setCspace c).hung = s.hung := rfl
@[simp] theorem State.setCspace_onBus (c : ColorSpace) (s : State) : (s.setCspace c).onBus = s.onBus := rfl

@[simp] theorem State.drive_mode (e : Event) (s : State) : (s.drive e).mode = s.mode := by cases e <;> rfl
@[simp] theorem State.drive_cspace (e : Event) (s : State) : (s.drive e).cspace = s.cspace := by cases e <;> rfl
@[simp] theorem State.drive_duty (e : Event) (s : State) : (s.drive e).duty = s.duty := by cases e <;> rfl
@[simp] theorem State.drive_trace (e : Event) (s : State) : (s.drive e).trace = s.trace := by cases e <;> rfl
@[simp] theorem State.drive_pc (e : Event) (s : State) : (s.drive e).pc = s.pc := by cases e <;> rfl
@[simp] theorem State.drive_seq (e : Event) (s : State) : (s.drive e).seq = s.seq := by cases e <;> rfl
@[simp] theorem State.drive_reqs (e : Event) (s : State) : (s.drive e).reqs = s.reqs := by cases e <;> rfl
@[simp] theorem State.drive_outcomes (e : Event) (s : State) : (s.drive e).outcomes = s.outcomes := by cases e <;> rfl
@[simp] theorem State.drive_answers (e : Event) (s : State) : (s.drive e).answers = s.answers := by cases e <;> rfl
@[simp] theorem State.drive_hung (e : Event) (s : State) : (s.drive e).hung = s.hung := by cases e <;> rfl

@[simp] theorem State.spoil_mode (e : Event) (n : Nat) (s : State) : (s.spoil e n).mode = s.mode := by cases e <;> rfl
@[simp] theorem State.spoil_cspace (e : Event) (n : Nat) (s : State) : (s.spoil e n).cspace = s.cspace := by cases e <;> rfl
@[simp] theorem State.spoil_duty (e : Event) (n : Nat) (s : State) : (s.spoil e n).duty = s.duty := by cases e <;> rfl
@[simp] theorem State.spoil_trace (e : Event) (n : Nat) (s : State) : (s.spoil e n).trace = s.trace := by cases e <;> rfl
@[simp] theorem State.spoil_pc (e : Event) (n : Nat) (s : State) : (s.spoil e n).pc = s.pc := by cases e <;> rfl
@[simp] theorem State.spoil_seq (e : Event) (n : Nat) (s : State) : (s.spoil e n).seq = s.seq := by cases e <;> rfl
@[simp] theorem State.spoil_reqs (e : Event) (n : Nat) (s : State) : (s.spoil e n).reqs = s.reqs := by cases e <;> rfl
@[simp] theorem State.spoil_outcomes (e : Event) (n : Nat) (s : State) : (s.spoil e n).outcomes = s.outcomes := by cases e <;> rfl
@[simp] theorem State.spoil_answers (e : Event) (n : Nat) (s : State) : (s.spoil e n).answers = s.answers := by cases e <;> rfl
@[simp] theorem State.spoil_hung (e : Event) (n : Nat) (s : State) : (s.spoil e n).hung = s.hung := by cases e <;> rfl

@[simp] theorem State.stall_mode (e : Event) (n : Nat) (s : State) : (s.stall e n).mode = s.mode := by cases e <;> rfl
@[simp] theorem State.stall_cspace (e : Event) (n : Nat) (s : State) : (s.stall e n).cspace = s.cspace := by cases e <;> rfl
@[simp] theorem State.stall_duty (e : Event) (n : Nat) (s : State) : (s.stall e n).duty = s.duty := by cases e <;> rfl
@[simp] theorem State.stall_trace (e : Event) (n : Nat) (s : State) : (s.stall e n).trace = s.trace := by cases e <;> rfl
@[simp] theorem State.stall_pc (e : Event) (n : Nat) (s : State) : (s.stall e n).pc = s.pc := by cases e <;> rfl
@[simp] theorem State.stall_seq (e : Event) (n : Nat) (s : State) : (s.stall e n).seq = s.seq := by cases e <;> rfl
@[simp] theorem State.stall_reqs (e : Event) (n : Nat) (s : State) : (s.stall e n).reqs = s.reqs := by cases e <;> rfl
@[simp] theorem State.stall_outcomes (e : Event) (n : Nat) (s : State) : (s.stall e n).outcomes = s.outcomes := by cases e <;> rfl
@[simp] theorem State.stall_answers (e : Event) (n : Nat) (s : State) : (s.stall e n).answers = s.answers := by cases e <;> rfl
@[simp] theorem State.stall_hung (e : Event) (n : Nat) (s : State) : (s.stall e n).hung = s.hung := by cases e <;> rfl
@[simp] theorem State.stall_cs (e : Event) (n : Nat) (s : State) : (s.stall e n).cs = s.cs := by cases e <;> rfl
@[simp] theorem State.stall_dc (e : Event) (n : Nat) (s : State) : (s.stall e n).dc = s.dc := by cases e <;> rfl
@[simp] theorem State.stall_rst (e : Event) (n : Nat) (s : State) : (s.stall e n).rst = s.rst := by cases e <;> rfl
@[simp] theorem State.stall_pwm (e : Event) (n : Nat) (s : State) : (s.stall e n).pwm = s.pwm := by cases e <;> rfl

@[simp] theorem State.completed_mode (e : Event) (s : State) : (s.completed e).mode = s.mode := by simp [State.completed]
@[simp] theorem State.completed_cspace (e : Event) (s : State) : (s.completed e).cspace = s.cspace := by simp [State.completed]
@[simp] theorem State.completed_duty (e : Event) (s : State) : (s.completed e).duty = s.duty := by simp [State.completed]
@[simp] theorem State.completed_trace (e : Event) (s : State) : (s.completed e).trace = s.trace ++ [.ok e] := by simp [State.completed]
@[simp] theorem State.completed_pc (e : Event) (s : State) : (s.completed e).pc = s.pc := by simp [State.completed]
@[simp] theorem State.completed_seq (e : Event) (s : State) : (s.completed e).seq = s.seq + 1 := by simp [State.completed]
@[simp] theorem State.completed_reqs (e : Event) (s : State) : (s.completed e).reqs = s.reqs := by simp [State.completed]
@[simp] theorem State.completed_outcomes (e : Event) (s : State) : (s.completed e).outcomes = s.outcomes := by simp [State.completed]
@[simp] theorem State.completed_answers (e : Event) (s : State) : (s.completed e).answers = s.answers.tail := by simp [State.completed]
@[simp] theorem State.completed_hung (e : Event) (s : State) : (s.completed e).hung = s.hung := by simp [State.completed]

@[simp] theorem State.failed_mode (e : Event) (n : Nat) (s : State) : (s.failed e n).mode = s.mode := by simp [State.failed]
@[simp] theorem State.failed_cspace (e : Event) (n : Nat) (s : State) : (s.failed e n).cspace = s.cspace := by simp [State.failed]
@[simp] theorem State.failed_duty (e : Event) (n : Nat) (s : State) : (s.failed e n).duty = s.duty := by simp [State.failed]
@[simp] theorem State.failed_trace (e : Event) (n : Nat) (s : State) : (s.failed e n).trace = s.trace ++ [.failed e] := by simp [State.failed]
@[simp] theorem State.failed_pc (e : Event) (n : Nat) (s : State) : (s.failed e n).pc = s.pc := by simp [State.failed]
@[simp] theorem State.failed_seq (e : Event) (n : Nat) (s : State) : (s.failed e n).seq = s.seq + 1 := by simp [State.failed]
@[simp] theorem State.failed_reqs (e : Event) (n : Nat) (s : State) : (s.failed e n).reqs = s.reqs := by simp [State.failed]
@[simp] theorem State.failed_outcomes (e : Event) (n : Nat) (s : State) : (s.failed e n).outcomes = s.outcomes := by simp [State.failed]
@[simp] theorem State.failed_answers (e : Event) (n : Nat) (s : State) : (s.failed e n).answers = s.answers.tail := by simp [State.failed]
@[simp] theorem State.failed_hung (e : Event) (n : Nat) (s : State) : (s.failed e n).hung = s.hung := by simp [State.failed]

/-! The calls performed in order. -/

@[simp] theorem State.performed_nil (s : State) : s.performed [] = s := rfl
@[simp] theorem State.performed_cons (e : Event) (es : List Event) (s : State) :
    s.performed (e :: es) = (s.completed e).performed es := rfl

theorem State.performed_append (es fs : List Event) (s : State) :
    s.performed (es ++ fs) = (s.performed es).performed fs := by
  induction es generalizing s with
  | nil => rfl
  | cons e es ih => simp [ih]

@[simp] theorem State.performed_mode (es : List Event) (s : State) : (s.performed es).mode = s.mode := by
  induction es generalizing s with
  | nil => simp
  | cons e es ih => simp [ih]

@[simp] theorem State.performed_cspace (es : List Event) (s : State) : (s.performed es).cspace = s.cspace := by
  induction es generalizing s with
  | nil => simp
  | cons e es ih => simp [ih]

@[simp] theorem State.performed_duty (es : List Event) (s : State) : (s.performed es).duty = s.duty := by
  induction es generalizing s with
  | nil => simp
  | cons e es ih => simp [ih]

@[simp] theorem State.performed_trace (es : List Event) (s : State) : (s.performed es).trace = s.trace ++ es.map .ok := by
  induction es generalizing s with
  | nil => simp
  | cons e es ih => simp [ih]

@[simp] theorem State.performed_pc (es : List Event) (s : State) : (s.performed es).pc = s.pc := by
  induction es generalizing s with
  | nil => simp
  | cons e es ih => simp [ih]

@[simp] theorem State.performed_seq (es : List Event) (s : State) : (s.performed es).seq = s.seq + es.length := by
  induction es generalizing s with
  | nil => simp
  | cons e es ih => simp [ih]; omega

@[simp] theorem State.performed_reqs (es : List Event) (s : State) : (s.performed es).reqs = s.reqs := by
  induction es generalizing s with
  | nil => simp
  | cons e es ih => simp [ih]

@[simp] theorem State.performed_outcomes (es : List Event) (s : State) : (s.performed es).outcomes = s.outcomes := by
  induction es generalizing s with
  | nil => simp
  | cons e es ih => simp [ih]

@[simp] theorem State.performed_answers (es : List Event) (s : State) : (s.performed es).answers = s.answers.drop es.length := by
  induction es generalizing s with
  | nil => simp
  | cons e es ih => cases ha : s.answers <;> simp [ih, ha]

@[simp] theorem State.performed_hung (es : List Event) (s : State) : (s.performed es).hung = s.hung := by
  induction es generalizing s with
  | nil => simp
  | cons e es ih => simp [ih]

end Sys2Proof.Machine
end

