-- ==== Sys2Proof/Laws/Ops.lean ====
section
/-! SUPPORT. One spec lemma per shared operation: what it answers, and everything it can do. -/

namespace Sys2Proof.Machine

/-! ### The transport's answer -/

@[simp] theorem State.answer_cons {s : State} {a : Answer} {as : List Answer} (h : s.answers = a :: as) :
    s.answer = a := by simp [State.answer, h]

theorem State.answer_nil {s : State} (h : s.answers = []) : s.answer = Config.freeAnswer s.trace.length := by
  simp [State.answer, h]

/-! ### Sequencing -/

@[simp] theorem Run.andThen_going (s : State) (k : State → Run) : (Run.going s).andThen k = k s := rfl
@[simp] theorem Run.andThen_ended (o : Reply) (s : State) (k : State → Run) :
    (Run.ended o s).andThen k = .ended o s := rfl
@[simp] theorem Run.andThen_stuck (e : Event) (s : State) (k : State → Run) :
    (Run.stuck e s).andThen k = .stuck e s := rfl
@[simp] theorem Run.andThen_fault (f : Fault) (k : State → Run) : (Run.fault f).andThen k = .fault f := rfl

theorem Run.andThen_assoc (r : Run) (k l : State → Run) :
    (r.andThen k).andThen l = r.andThen fun s => (k s).andThen l := by
  cases r <;> rfl

@[simp] theorem Run.finish_going (s : State) : (Run.going s).finish = .next (s.close (.ok .none)) := rfl
@[simp] theorem Run.finish_ended (o : Reply) (s : State) : (Run.ended o s).finish = .next (s.close o) := rfl
@[simp] theorem Run.finish_stuck (e : Event) (s : State) :
    (Run.stuck e s).finish = .next { s with hung := some e } := rfl
@[simp] theorem Run.finish_fault (f : Fault) : (Run.fault f).finish = .fault f := rfl

/-! ### One call -/

/-- Everything a call can do (R44). -/
theorem emit_cases (e : Event) (s : State) :
    (s.answer = .completes ∧ emit e s = .going (s.completed e)) ∨
    (∃ n, s.answer = .fails n ∧ emit e s = .ended (.transportError e) (s.failed e n)) ∨
    (∃ n, s.answer = .never n ∧ emit e s = .stuck e (s.stall e n)) := by
  cases h : s.answer <;> simp [emit, h]

theorem emit_completes {s : State} {as : List Answer} (e : Event) (h : s.answers = .completes :: as) :
    emit e s = .going (s.completed e) := by simp [emit, State.answer_cons h]

theorem emit_fails {s : State} {n : Nat} {as : List Answer} (e : Event) (h : s.answers = .fails n :: as) :
    emit e s = .ended (.transportError e) (s.failed e n) := by simp [emit, State.answer_cons h]

theorem emit_never {s : State} {n : Nat} {as : List Answer} (e : Event) (h : s.answers = .never n :: as) :
    emit e s = .stuck e (s.stall e n) := by simp [emit, State.answer_cons h]

/-! ### Calls in order -/

@[simp] theorem emitAll_nil (s : State) : emitAll [] s = .going s := rfl

theorem emitAll_cons (e : Event) (es : List Event) (s : State) :
    emitAll (e :: es) s = (emit e s).andThen (emitAll es) := rfl

theorem emitAll_append (es fs : List Event) (s : State) :
    emitAll (es ++ fs) s = (emitAll es s).andThen (emitAll fs) := by
  induction es generalizing s with
  | nil => rfl
  | cons e es ih =>
    have : emitAll (es ++ fs) = fun s => (emitAll es s).andThen (emitAll fs) := funext ih
    rw [List.cons_append, emitAll_cons, this, ← Run.andThen_assoc, ← emitAll_cons]

/-- Where the transport answers that each call completes, each is performed (R44(a)). -/
theorem emitAll_completes (es : List Event) (as : List Answer) {s : State}
    (h : s.answers = List.replicate es.length .completes ++ as) : emitAll es s = .going (s.performed es) := by
  induction es generalizing s with
  | nil => rfl
  | cons e es ih =>
    have h' : s.answers = .completes :: (List.replicate es.length .completes ++ as) := by
      simpa [List.replicate_succ] using h
    rw [emitAll_cons, emit_completes e h', Run.andThen_going, ih (by simp [h'])]
    rfl

/-- Everything a sequence of calls can do: all complete, or a first one fails, or a first one never returns
(R44, R51). -/
theorem emitAll_cases (es : List Event) (s : State) :
    emitAll es s = .going (s.performed es) ∨
    (∃ pre e post n, es = pre ++ e :: post ∧
      emitAll es s = .ended (.transportError e) ((s.performed pre).failed e n)) ∨
    (∃ pre e post n, es = pre ++ e :: post ∧ emitAll es s = .stuck e ((s.performed pre).stall e n)) := by
  induction es generalizing s with
  | nil => exact .inl rfl
  | cons e es ih =>
    rw [emitAll_cons]
    obtain ⟨-, h⟩ | ⟨n, -, h⟩ | ⟨n, -, h⟩ := emit_cases e s <;> rw [h]
    · obtain h | ⟨pre, f, post, n, rfl, h⟩ | ⟨pre, f, post, n, rfl, h⟩ := ih (s.completed e)
      · exact .inl h
      · exact .inr (.inl ⟨e :: pre, f, post, n, rfl, h⟩)
      · exact .inr (.inr ⟨e :: pre, f, post, n, rfl, h⟩)
    · exact .inr (.inl ⟨[], e, es, n, rfl, rfl⟩)
    · exact .inr (.inr ⟨[], e, es, n, rfl, rfl⟩)

/-- The model's events of a wire command are the trace's ten, or five, of R69. -/
theorem cmdEvents_eq_cmd (o : Byte) (ps : List Byte) : cmdEvents o (some ps) = Safety.cmd o ps := by
  cases ps <;> simp [cmdEvents, Safety.cmd, phase]

theorem cmdEvents_none (o : Byte) : cmdEvents o none = Safety.cmd o [] := rfl

/-- A wire command's events, from its encoding. -/
theorem wireEvents_eq {i : Instr} {op : Byte} {ps : List Byte} (h : encode i = .wire op ps) :
    wireEvents i = Safety.cmd op ps := by
  simp [wireEvents, h, cmdEvents_eq_cmd]

@[simp] theorem vdvvrhenTrailer_sent : Layout.vdvvrhenTrailer true = [Layout.vdvvrhenFixed] := rfl
@[simp] theorem vdvvrhenTrailer_absent : Layout.vdvvrhenTrailer false = [] := rfl

/-! ### The issue of a request -/

theorem serve_hung {s : State} {e : Event} (body : State → Run) (h : s.hung = some e) : serve body s = .next s := by
  simp [serve, h]

theorem serve_free {s : State} (body : State → Run) (h : s.hung = none) : serve body s = (body s.start).finish := by
  simp [serve, h]

/-- Everything a request's end can be: it is not issued, it ends with an outcome, or it hangs. -/
theorem serve_cases {body : State → Run} {s t : State} (h : serve body s = .next t) :
    (∃ e, s.hung = some e ∧ t = s) ∨
    (s.hung = none ∧ ∃ u, body s.start = .going u ∧ t = u.close (.ok .none)) ∨
    (s.hung = none ∧ ∃ o u, body s.start = .ended o u ∧ t = u.close o) ∨
    (s.hung = none ∧ ∃ e u, body s.start = .stuck e u ∧ t = { u with hung := some e }) := by
  cases hs : s.hung with
  | some e =>
    rw [serve_hung body hs] at h
    cases h
    exact .inl ⟨e, rfl, rfl⟩
  | none =>
    rw [serve_free body hs] at h
    cases hb : body s.start with
    | going u => rw [hb] at h; cases h; exact .inr (.inl ⟨rfl, u, rfl, rfl⟩)
    | ended o u => rw [hb] at h; cases h; exact .inr (.inr (.inl ⟨rfl, o, u, rfl, rfl⟩))
    | stuck e u => rw [hb] at h; cases h; exact .inr (.inr (.inr ⟨rfl, e, u, rfl, rfl⟩))
    | fault f => rw [hb] at h; cases h

/-! ### The checks and reads of a request -/

theorem setUp_uninitialized {s : State} (k : State → Run) (h : s.mode = .uninitialized) :
    setUp k s = .ended .invalidState s := by simp [setUp, h]

theorem setUp_set {s : State} (k : State → Run) (h : s.mode ≠ .uninitialized) : setUp k s = k s := by
  cases hm : s.mode <;> simp_all [setUp]

theorem checkFields_legal {cs : List FieldCheck} (k : State → Run) (s : State) (h : cs.all fun c => c.legal) :
    checkFields cs k s = k s := by
  have : firstIllegal cs = none := by
    induction cs with
    | nil => rfl
    | cons c cs ih =>
      have h' : c.legal = true ∧ (cs.all fun c => c.legal) = true := by simpa using h
      simp [firstIllegal, h'.1, ih h'.2]
  simp [checkFields, this]

/-- The first illegal row, in the table's order, names the error (R149, R177). -/
theorem checkFields_illegal {pre post : List FieldCheck} {c : FieldCheck} (k : State → Run) (s : State)
    (hp : pre.all fun c => c.legal) (hc : c.legal = false) :
    checkFields (pre ++ c :: post) k s = .ended (.invalidArgument c.name c.range) s := by
  have : firstIllegal (pre ++ c :: post) = some (.invalidArgument c.name c.range) := by
    induction pre with
    | nil => simp [firstIllegal, hc]
    | cons d ds ih =>
      have h' : d.legal = true ∧ (ds.all fun c => c.legal) = true := by simpa using hp
      simp [firstIllegal, h'.1, ih h'.2]
  simp [checkFields, this]

/-- Everything a table's check can do: the request goes on with every row legal, or ends with the first illegal row's
error. -/
theorem checkFields_cases (cs : List FieldCheck) (k : State → Run) (s : State) :
    ((cs.all fun c => c.legal) = true ∧ checkFields cs k s = k s) ∨
    ∃ pre c post, cs = pre ++ c :: post ∧ (pre.all fun c => c.legal) = true ∧ c.legal = false ∧
      checkFields cs k s = .ended (.invalidArgument c.name c.range) s := by
  by_cases h : (cs.all fun c => c.legal) = true
  · exact .inl ⟨h, checkFields_legal k s h⟩
  · right
    have split : ∃ pre c post, cs = pre ++ c :: post ∧ (pre.all fun c => c.legal) = true ∧ c.legal = false := by
      clear s k
      induction cs with
      | nil => simp at h
      | cons c cs ih =>
        cases hc : c.legal with
        | false => exact ⟨[], c, cs, rfl, rfl, hc⟩
        | true =>
          obtain ⟨pre, d, post, rfl, hp, hd⟩ := ih (by simpa [hc] using h)
          exact ⟨c :: pre, d, post, rfl, by simp [hc, hp], hd⟩
    obtain ⟨pre, c, post, rfl, hp, hc⟩ := split
    exact ⟨pre, c, post, rfl, hp, hc, checkFields_illegal k s hp hc⟩

theorem readCspace_value {s : State} {c : ColorSpace} (k : ColorSpace → State → Run) (h : s.cspace = .value c) :
    readCspace k s = k c s := by simp [readCspace, h]

theorem readDuty_value {s : State} {d : U16} (k : U16 → State → Run) (h : s.duty = .value d) :
    readDuty k s = k d s := by simp [readDuty, h]

theorem applyDuty_value {s : State} {d : U16} (h : s.duty = .value d) : applyDuty s = emit (.pwmDuty d) s := by
  simp [applyDuty, readDuty, h]

/-- Everything SetWindow can do: an error of the first illegal pair, or CASET then RASET (R121). -/
theorem setWindow_cases (xs xe ys ye : Int) (s : State) :
    (windowPair xs xe = false ∧ setWindow xs xe ys ye s = .ended (.invalidArgument .column .windowPair) s) ∨
    (windowPair xs xe = true ∧ windowPair ys ye = false ∧
      setWindow xs xe ys ye s = .ended (.invalidArgument .row .windowPair) s) ∨
    (windowPair xs xe = true ∧ windowPair ys ye = true ∧
      setWindow xs xe ys ye s =
        emitAll (wireEvents (.caset (BitVec.ofInt 16 xs) (BitVec.ofInt 16 xe)) ++
          wireEvents (.raset (BitVec.ofInt 16 ys) (BitVec.ofInt 16 ye))) s) := by
  cases hx : windowPair xs xe <;> cases hy : windowPair ys ye <;>
    simp [setWindow, hx, hy, sendWire, emitAll_append]
  rfl

/-! ### What every request keeps -/

/-- `P` of the state a request in progress has reached. -/
def Run.Leaves (P : State → Prop) : Run → Prop
  | .going s => P s
  | .ended _ s => P s
  | .stuck _ s => P s
  | .fault _ => True

theorem Run.Leaves.andThen {P : State → Prop} {r : Run} {k : State → Run} (hr : r.Leaves P)
    (hk : ∀ s, P s → (k s).Leaves P) : (r.andThen k).Leaves P := by
  cases r with
  | going s => exact hk s hr
  | ended o s => exact hr
  | stuck e s => exact hr
  | fault f => trivial

/-- What every completed, failed and stuck call keeps, a sequence of calls keeps. -/
theorem emitAll_leaves {P : State → Prop} (hc : ∀ e s, P s → P (s.completed e))
    (hf : ∀ e n s, P s → P (s.failed e n)) (hs : ∀ e n s, P s → P (s.stall e n)) (es : List Event) {s : State}
    (h : P s) : (emitAll es s).Leaves P := by
  induction es generalizing s with
  | nil => exact h
  | cons e es ih =>
    rw [emitAll_cons]
    obtain ⟨-, he⟩ | ⟨n, -, he⟩ | ⟨n, -, he⟩ := emit_cases e s <;> rw [he]
    · exact ih (hc e s h)
    · exact hf e n s h
    · exact hs e n s h

end Sys2Proof.Machine
end

