-- ==== Sys2Proof/Laws/PerInstr.lean ====
section
/-! SUPPORT. Per instruction, as syntax: the first byte the encoder gives it is one its row of
spec/opcode_table.json matches. -/

namespace Sys2Proof.Laws

/-- The byte matches the instruction's row: match and mask of spec/opcode_table.json, each written from the table. -/
def rowMatches : Instr → Byte → Bool
  | .init _, b => b == 0x00
  | .makeFrameBuffer, b => b == 0x01
  | .showFrame _, b => b == 0x02
  | .sleep, b => b == 0x03
  | .wake, b => b == 0x04
  | .dim _, b => b == 0x05
  | .sendCommand _ _, b => b == 0x06
  | .setWindow _ _ _ _, b => b == 0x07
  | .colorSpace, b => b == 0x08
  | .packColor _ _ _, b => b == 0x09
  | .packRgb565 _ _ _, b => b == 0x0A
  | .reservedB, b => b == 0x0B
  | .reservedCToF _, b => b &&& 0xFC == 0x0C
  | .reservedRsv _ _, b => b &&& 0xF0 != 0
  | .slpin, b => b == 0x10
  | .slpout, b => b == 0x11
  | .invon, b => b == 0x21
  | .dispoff, b => b == 0x28
  | .dispon, b => b == 0x29
  | .caset _ _, b => b == 0x2A
  | .raset _ _, b => b == 0x2B
  | .ramwr _, b => b == 0x2C
  | .madctl _ _ _ _ _ _, b => b == 0x36
  | .colmod _ _, b => b == 0x3A
  | .porctrl _ _ _ _ _ _ _, b => b == 0xB2
  | .gctrl _ _, b => b == 0xB7
  | .vcoms _, b => b == 0xBB
  | .lcmctrl _ _ _ _ _ _ _, b => b == 0xC0
  | .vdvvrhen _ _, b => b == 0xC2
  | .vrhs _, b => b == 0xC3
  | .vdvs _, b => b == 0xC4
  | .frctrl2 _ _, b => b == 0xC6
  | .pwctrl1 _ _ _, b => b == 0xD0
  | .pvgamctrl _, b => b == 0xE0
  | .nvgamctrl _, b => b == 0xE1

/-- The first byte of an item. -/
def firstByte : Item → Byte
  | .request h _ => h
  | .wire op _ => op

namespace Encoding

/-- A well-formed instruction's encoding begins with a byte of its own row. -/
def Statement (i : Instr) : Prop := i.wf = true → rowMatches i (firstByte (encode i)) = true

theorem init (cfg : Cfg) : Statement (.init cfg) := fun _ => rfl
theorem makeFrameBuffer : Statement .makeFrameBuffer := fun _ => rfl
theorem showFrame (buf : List Byte) : Statement (.showFrame buf) := fun _ => rfl
theorem sleep : Statement .sleep := fun _ => rfl
theorem wake : Statement .wake := fun _ => rfl
theorem dim (b : Option (BitVec 64)) : Statement (.dim b) := by intro _; cases b <;> rfl
theorem sendCommand (opcode : Int) (data : Option (List Byte)) : Statement (.sendCommand opcode data) := by intro _; cases data <;> rfl
theorem setWindow (xs xe ys ye : Int) : Statement (.setWindow xs xe ys ye) := fun _ => rfl
theorem colorSpace : Statement .colorSpace := fun _ => rfl
theorem packColor (r g b : Int) : Statement (.packColor r g b) := fun _ => rfl
theorem packRgb565 (r g b : Int) : Statement (.packRgb565 r g b) := fun _ => rfl
theorem reservedB : Statement .reservedB := fun _ => rfl
theorem reservedCToF (lo : BitVec 2) : Statement (.reservedCToF lo) := by
  intro _
  revert lo
  decide
theorem reservedRsv (rsv op : BitVec 4) : Statement (.reservedRsv rsv op) := by
  intro h
  revert rsv op
  decide
theorem slpin : Statement .slpin := fun _ => rfl
theorem slpout : Statement .slpout := fun _ => rfl
theorem invon : Statement .invon := fun _ => rfl
theorem dispoff : Statement .dispoff := fun _ => rfl
theorem dispon : Statement .dispon := fun _ => rfl
theorem caset (xs xe : U16) : Statement (.caset xs xe) := fun _ => rfl
theorem raset (ys ye : U16) : Statement (.raset ys ye) := fun _ => rfl
theorem ramwr (pixels : List Byte) : Statement (.ramwr pixels) := fun _ => rfl
theorem madctl (my mx mv ml rgb mh : BitVec 1) : Statement (.madctl my mx mv ml rgb mh) := fun _ => rfl
theorem colmod (rgbIf ctrlIf : BitVec 3) : Statement (.colmod rgbIf ctrlIf) := fun _ => rfl
theorem porctrl (bpa fpa : BitVec 7) (psen : BitVec 1) (bpb fpb bpc fpc : BitVec 4) : Statement (.porctrl bpa fpa psen bpb fpb bpc fpc) := fun _ => rfl
theorem gctrl (vghs vgls : BitVec 3) : Statement (.gctrl vghs vgls) := fun _ => rfl
theorem vcoms (v : BitVec 6) : Statement (.vcoms v) := fun _ => rfl
theorem lcmctrl (xmy xbgr xinv xmx xmh xmv xgs : BitVec 1) : Statement (.lcmctrl xmy xbgr xinv xmx xmh xmv xgs) := fun _ => rfl
theorem vdvvrhen (cmden : BitVec 1) (trailer : Bool) : Statement (.vdvvrhen cmden trailer) := fun _ => rfl
theorem vrhs (v : BitVec 6) : Statement (.vrhs v) := fun _ => rfl
theorem vdvs (v : BitVec 6) : Statement (.vdvs v) := fun _ => rfl
theorem frctrl2 (nla : BitVec 3) (rtna : BitVec 5) : Statement (.frctrl2 nla rtna) := fun _ => rfl
theorem pwctrl1 (avdd avcl vds : BitVec 2) : Statement (.pwctrl1 avdd avcl vds) := fun _ => rfl
theorem pvgamctrl (curve : Curve Byte) : Statement (.pvgamctrl curve) := fun _ => rfl
theorem nvgamctrl (curve : Curve Byte) : Statement (.nvgamctrl curve) := fun _ => rfl

end Encoding
end Sys2Proof.Laws
end

