-- ==== Sys2Proof/Tests/Slice0.lean ====
section
/-! SUPPORT. The model's own tests. Expected results are the spec's worked vectors (spec/95_test_vectors.md, cited by
their ids) or words written out from spec/30_encoding.md. -/

namespace Sys2Proof.Tests

open Sys2Proof.Machine Sys2Proof.Safety

/-! ### States -/

/-- S0 (R190), the transport completing the next `n` calls. -/
def power (n : Nat) : State := { State.reset with answers := List.replicate n .completes }

/-- A state after INIT (R191) whose stored duty is `d`, with these transport answers. -/
def awakeWith (d : U16) (answers : List Answer) : State where
  mode := .awake
  cspace := .value .rgb565
  duty := .value d
  cs := .driven .high
  dc := .driven .low
  rst := .driven .high
  pwm := .duty d
  trace := []
  pc := 1
  seq := 148
  reqs := []
  outcomes := [.ok .none]
  answers := answers
  hung := none
  onBus := []

/-- The same, the transport completing the next `n` calls. -/
def awake (d : U16) (n : Nat) : State := awakeWith d (List.replicate n .completes)

/-- The same after a SLEEP (R100). -/
def asleep (d : U16) (n : Nat) : State := { awake d n with mode := .asleep, pwm := .duty 0 }

/-- `cfg1` of V-INIT-1. -/
def cfg1 : Cfg where
  madctl := ⟨0, 1, 1, 1, 0, 0⟩
  colmod := ⟨5, 5⟩
  porch := ⟨0x0C, 0x0C, 0, 3, 3, 3, 3⟩
  gate := ⟨3, 5⟩
  vcoms := 0x19
  lcm := ⟨0, 1, 0, 1, 1, 0, 0⟩
  cmden := 1
  vrhs := 0x12
  vdvs := 0x20
  frctrl := ⟨0, 0x0F⟩
  power := ⟨2, 2, 1⟩
  pgamma := ⟨0xD0, 0x04, 0x0D, 0x11, 0x13, 0x2B, 0x3F, 0x54, 0x4C, 0x18, 0x0D, 0x0B, 0x1F, 0x23⟩
  ngamma := ⟨0xD0, 0x04, 0x0C, 0x11, 0x13, 0x2C, 0x3F, 0x44, 0x51, 0x2F, 0x1F, 0x1F, 0x20, 0x23⟩

/-- The state of a next outcome, or `s`. -/
def after (i : Instr) (s : State) : State :=
  match exec i s with
  | .next t => t
  | .fault _ => s
  | .refused _ => s

/-- The outcome a request gives from `s`. -/
def reply (i : Instr) (s : State) : Option Reply := (after i { s with outcomes := [] }).outcomes.head?

/-! ### Well-formedness: a term each check refuses -/

theorem test_wf_rsv_zero : (Instr.reservedRsv 0 3).wf = false := by decide
theorem test_wf_rsv : (Instr.reservedRsv 1 2).wf = true := by decide
/-- R64: 0x08 has a bit outside M[8] = 0x77. -/
theorem test_wf_gamma_bit :
    (Instr.pvgamctrl ⟨0, 0, 0, 0, 0, 0, 0, 0x08, 0, 0, 0, 0, 0, 0⟩).wf = false := by decide
theorem test_wf_ngamma_bit :
    (Instr.nvgamctrl ⟨0, 0x40, 0, 0, 0, 0, 0, 0, 0, 0, 0, 0, 0, 0⟩).wf = false := by decide

/-! ### Decoding: words written out from R56, R57, R60 and R61 -/

theorem test_decode_init : decode (.request 0x00 [.record cfg1]) = .ok (.init cfg1) := by rfl
theorem test_decode_make_frame_buffer : decode (.request 0x01 []) = .ok .makeFrameBuffer := by rfl
theorem test_decode_show : decode (.request 0x02 [.region [0xF8, 0x00]]) = .ok (.showFrame [0xF8, 0x00]) := by rfl
theorem test_decode_sleep : decode (.request 0x03 []) = .ok .sleep := by rfl
theorem test_decode_wake : decode (.request 0x04 []) = .ok .wake := by rfl
theorem test_decode_dim : decode (.request 0x05 [.absent]) = .ok (.dim none) := by rfl
/-- P1: `0x05`, present `0x3FD999999999999A`. -/
theorem test_decode_dim_present :
    decode (.request 0x05 [.binary64 0x3FD999999999999A]) = .ok (.dim (some 0x3FD999999999999A)) := by rfl
/-- P3: `0x06`, 0x136, absent. -/
theorem test_decode_send_command : decode (.request 0x06 [.int 0x136, .absent]) = .ok (.sendCommand 0x136 none) := by
  rfl
theorem test_decode_send_command_data :
    decode (.request 0x06 [.int 0x2C, .region [0xF8, 0]]) = .ok (.sendCommand 0x2C (some [0xF8, 0])) := by rfl
/-- P2: `0x07`, 16, 287, 0, 239. -/
theorem test_decode_set_window :
    decode (.request 0x07 [.int 16, .int 287, .int 0, .int 239]) = .ok (.setWindow 16 287 0 239) := by rfl
theorem test_decode_color_space : decode (.request 0x08 []) = .ok .colorSpace := by rfl
theorem test_decode_pack_color : decode (.request 0x09 [.int 1, .int 2, .int 3]) = .ok (.packColor 1 2 3) := by rfl
theorem test_decode_pack_rgb565 : decode (.request 0x0A [.int 1, .int 2, .int 3]) = .ok (.packRgb565 1 2 3) := by rfl
theorem test_decode_reserved_b : decode (.request 0x0B []) = .ok .reservedB := by rfl
theorem test_decode_reserved_f : decode (.request 0x0F []) = .ok (.reservedCToF 3) := by rfl
/-- V-ENC-4: RSV = 1, OP = SHOW. -/
theorem test_decode_reserved_rsv : decode (.request 0x12 [.region []]) = .ok (.reservedRsv 1 2) := by rfl
/-- The operands of a request are typed (R58). -/
theorem test_decode_operand_shape : decode (.request 0x02 [.int 0]) = .error (.operandShape 0x02) := by rfl

theorem test_decode_slpin : decode (.wire 0x10 []) = .ok .slpin := by rfl
theorem test_decode_slpout : decode (.wire 0x11 []) = .ok .slpout := by rfl
theorem test_decode_invon : decode (.wire 0x21 []) = .ok .invon := by rfl
theorem test_decode_dispoff : decode (.wire 0x28 []) = .ok .dispoff := by rfl
theorem test_decode_dispon : decode (.wire 0x29 []) = .ok .dispon := by rfl
/-- V-WIN-2: `CMD(0x2A; 00 10 01 1F)`, high byte first. -/
theorem test_decode_caset : decode (.wire 0x2A [0x00, 0x10, 0x01, 0x1F]) = .ok (.caset 0x0010 0x011F) := by rfl
theorem test_decode_raset : decode (.wire 0x2B [0x01, 0x3D, 0x01, 0x3E]) = .ok (.raset 0x013D 0x013E) := by rfl
theorem test_decode_ramwr : decode (.wire 0x2C [0xF8, 0x00]) = .ok (.ramwr [0xF8, 0x00]) := by rfl
/-- V-INIT-1: my 0, mx 1, mv 1, ml 1, rgb 0, mh 0 is `70`. -/
theorem test_decode_madctl : decode (.wire 0x36 [0x70]) = .ok (.madctl 0 1 1 1 0 0) := by rfl
/-- V-INIT-8: rgb_if 0b101, ctrl_if 0b110 is `56`. -/
theorem test_decode_colmod : decode (.wire 0x3A [0x56]) = .ok (.colmod 0b101 0b110) := by rfl
theorem test_decode_porctrl :
    decode (.wire 0xB2 [0x0C, 0x0D, 0x01, 0x34, 0x56]) = .ok (.porctrl 0x0C 0x0D 1 3 4 5 6) := by rfl
/-- V-INIT-1: vghs 3, vgls 5 is `35`. -/
theorem test_decode_gctrl : decode (.wire 0xB7 [0x35]) = .ok (.gctrl 3 5) := by rfl
theorem test_decode_vcoms : decode (.wire 0xBB [0x19]) = .ok (.vcoms 0x19) := by rfl
/-- V-INIT-1: xbgr, xmx and xmh set is `2C`. -/
theorem test_decode_lcmctrl : decode (.wire 0xC0 [0x2C]) = .ok (.lcmctrl 0 1 0 1 1 0 0) := by rfl
theorem test_decode_vdvvrhen : decode (.wire 0xC2 [0x01, 0xFF]) = .ok (.vdvvrhen 1 true) := by rfl
theorem test_decode_vdvvrhen_short : decode (.wire 0xC2 [0x01]) = .ok (.vdvvrhen 1 false) := by rfl
theorem test_decode_vrhs : decode (.wire 0xC3 [0x12]) = .ok (.vrhs 0x12) := by rfl
theorem test_decode_vdvs : decode (.wire 0xC4 [0x20]) = .ok (.vdvs 0x20) := by rfl
/-- R142: nla in bits 7..5, rtna in 4..0. -/
theorem test_decode_frctrl2 : decode (.wire 0xC6 [0x6F]) = .ok (.frctrl2 3 0x0F) := by rfl
/-- V-INIT-1: avdd 2, avcl 2, vds 1 is `A4 A1`. -/
theorem test_decode_pwctrl1 : decode (.wire 0xD0 [0xA4, 0xA1]) = .ok (.pwctrl1 2 2 1) := by rfl
theorem test_decode_pvgamctrl :
    decode (.wire 0xE0 [0xD0, 4, 0x0D, 0x11, 0x13, 0x2B, 0x3F, 0x54, 0x4C, 0x18, 0x0D, 0x0B, 0x1F, 0x23]) =
      .ok (.pvgamctrl ⟨0xD0, 4, 0x0D, 0x11, 0x13, 0x2B, 0x3F, 0x54, 0x4C, 0x18, 0x0D, 0x0B, 0x1F, 0x23⟩) := by rfl
theorem test_decode_nvgamctrl :
    decode (.wire 0xE1 [0xFF, 0, 0, 0, 0, 0, 0, 0x77, 0, 0, 0, 0, 0, 0x3F]) =
      .ok (.nvgamctrl ⟨0xFF, 0, 0, 0, 0, 0, 0, 0x77, 0, 0, 0, 0, 0, 0x3F⟩) := by rfl

theorem test_decode_reserved_bit : decode (.wire 0x36 [0x71]) = .error (.reservedBits 0x36) := by rfl
theorem test_decode_fixed_byte : decode (.wire 0xD0 [0xA5, 0xA1]) = .error (.fixedByte 0xD0) := by rfl
/-- D21: the second byte is 0xFF. -/
theorem test_decode_trailer_fixed : decode (.wire 0xC2 [0x01, 0xFE]) = .error (.fixedByte 0xC2) := by rfl
theorem test_decode_param_count : decode (.wire 0x2A [0, 0, 0]) = .error (.parameterCount 0x2A) := by rfl
theorem test_decode_unknown_opcode : decode (.wire 0x01 []) = .error (.unknownOpcode 0x01) := by rfl

theorem test_table_show : decodeTableWord 8 0x02 = some (.showFrame []) := by decide
theorem test_table_pwctrl1 : decodeTableWord 8 0xD0 = some (.pwctrl1 0 0 0) := by decide
/-- The table's word is what the next step runs. -/
theorem test_fetch_word_dispoff :
    step (State.reset.withFetchWord 8 0x28) = exec .dispoff (State.reset.withFetchWord 8 0x28) := by rfl

/-! ### Colours -/

/-- V-COL-1. -/
theorem test_pack_color : reply (.packColor 0x12 0x34 0x56) (power 0) = some (.ok (.color24 0x563412)) := by decide
/-- V-COL-5: red is checked first. -/
theorem test_pack_color_red :
    reply (.packColor 256 (-1) 300) (power 0) = some (.invalidArgument .red (.bits 8)) := by decide
/-- V-COL-12. -/
theorem test_pack_rgb565 : reply (.packRgb565 0x12 0x34 0x56) (power 0) = some (.ok (.pixel16 0x11AA)) := by decide
/-- V-COL-13. -/
theorem test_pack_rgb565_green :
    reply (.packRgb565 0 256 0) (power 0) = some (.invalidArgument .green (.bits 8)) := by decide
/-- V-COL-14. -/
theorem test_color_space_early : reply .colorSpace (power 0) = some .invalidState := by decide
/-- V-COL-15. -/
theorem test_color_space : reply .colorSpace (asleep 9 0) = some (.ok (.colorSpace .rgb565)) := by decide

/-! ### Frame buffer -/

/-- V-FB-2: the length, by the rule's own product. -/
theorem test_frame_buffer :
    reply .makeFrameBuffer (awake 9 0) =
      some (.ok (.frameBuffer ⟨240, 240, .rgb565, 240, List.replicate 115200 0⟩)) := by rfl
/-- V-SHOW-2: the length is not checked. -/
theorem test_show :
    (after (.showFrame [0xF8, 0x00, 0x07, 0xE0]) (awake 9 30)).trace =
      (cmd 0x2A [0x00, 0x00, 0x00, 0xEF] ++ cmd 0x2B [0x00, 0x00, 0x00, 0xEF] ++
        cmd 0x2C [0xF8, 0x00, 0x07, 0xE0]).map .ok := by decide
/-- V-SHOW-6: a failing pixel write, here with one byte through. -/
theorem test_show_fails :
    let t := after (.showFrame [1, 2]) (awakeWith 9 (List.replicate 28 .completes ++ [.fails 1]))
    (t.trace.length, t.cs, t.dc, t.onBus.drop 11, t.outcomes.getLast?) =
      (29, .driven .low, .driven .high, [1], some (.transportError (.spiWrite [1, 2]))) := by decide

/-! ### Power and brightness -/

/-- V-PWR-1. -/
theorem test_sleep :
    let t := after .sleep (awake 26214 11)
    (t.trace, t.mode, t.duty, t.pwm) =
      (([Event.pwmDuty 0] ++ cmd 0x28 [] ++ cmd 0x10 []).map .ok, .asleep, .value 26214, .duty 0) := by decide
/-- V-PWR-15: the first call fails. -/
theorem test_sleep_fails :
    let t := after .sleep (awakeWith 16384 [.fails 0])
    (t.trace, t.mode, t.pwm) = ([.failed (.pwmDuty 0)], .awake, .unknown) := by decide
/-- V-PWR-4. -/
theorem test_wake :
    let t := after .wake (asleep 26214 11)
    (t.trace, t.mode, t.pwm) =
      ((cmd 0x11 [] ++ cmd 0x29 [] ++ [Event.pwmDuty 26214]).map .ok, .awake, .duty 26214) := by decide
/-- V-PWR-7. -/
theorem test_dim :
    let t := after (.dim (some 0x3FD999999999999A)) (awake 65535 1)
    (t.trace, t.duty, t.pwm) = ([.ok (.pwmDuty 26214)], .value 26214, .duty 26214) := by decide +kernel
/-- V-PWR-11: NaN. -/
theorem test_dim_nan :
    reply (.dim (some 0x7FF8000000000000)) (awake 9 1) =
      some (.invalidArgument .brightness .unitInterval) := by decide

/-- V-DUTY-1 to V-DUTY-8. -/
theorem test_duty_table :
    [0x0000000000000000, 0x8000000000000000, 0x3FF0000000000000, 0x3FD999999999999A, 0x3FE0000000000000,
      0x3FD0000000000000, 0x3FE8000000000000, 0x3FB999999999999A].map dutyNumber =
    [0, 0, 65535, 26214, 32768, 16384, 49151, 6554] := by decide +kernel
/-- V-DUTY-9 to V-DUTY-16. -/
theorem test_duty_table_rest :
    [0x3FD3333333333333, 0x3F50624DD2F1A9FC, 0x3FEFF7CED916872B, 0x3FD5555555555555, 0x3FE5555555555555,
      0x3EE0000000000000, 0x3FEFFFFFFFFFFFFF, 0x3FC132D132D132D1].map dutyNumber =
    [19660, 66, 65469, 21845, 43690, 0, 65535, 8806] := by decide +kernel
/-- V-PWR-9, V-PWR-10: 1.5 and -0.1; V-DUTY-2: -0.0 is legal. -/
theorem test_unit_interval :
    [0x3FF8000000000000, 0xBFB999999999999A, 0x8000000000000000].map inUnitInterval = [false, false, true] := by
  decide

/-! ### Wire protocol -/

/-- V-WIRE-1. -/
theorem test_send_command :
    (after (.sendCommand 0x36 (some [0x70])) (awake 9 10)).trace =
      [.ok (.setCS .high), .ok (.setDC .low), .ok (.setCS .low), .ok (.spiWrite [0x36]), .ok (.setCS .high),
        .ok (.setCS .high), .ok (.setDC .high), .ok (.setCS .low), .ok (.spiWrite [0x70]), .ok (.setCS .high)] := by
  decide
/-- V-WIRE-7. -/
theorem test_send_command_wide :
    reply (.sendCommand 0x136 none) (awake 9 10) = some (.invalidArgument .opcode (.bits 8)) := by decide
/-- V-WIRE-12: `SetDC(0)` fails. -/
theorem test_wire_fails :
    let t := after (.madctl 0 1 1 1 0 0) (awakeWith 9 [.completes, .fails 0])
    (t.trace, t.dc, t.cs) = ([.ok (.setCS .high), .failed (.setDC .low)], .unknown, .driven .high) := by decide
/-- R176: a call that never returns leaves no outcome, and pc where it was. -/
theorem test_wire_hangs :
    let t := after .dispoff (awakeWith 9 [.completes, .never 0])
    (t.trace, t.pc, t.outcomes, t.hung) =
      ([.ok (.setCS .high)], 1, [.ok .none], some (.setDC .low)) := by decide

/-- V-WIN-3. -/
theorem test_set_window :
    (after (.setWindow 0 0x013E 0x013D 0x013E) (awake 9 20)).trace =
      (cmd 0x2A [0x00, 0x00, 0x01, 0x3E] ++ cmd 0x2B [0x01, 0x3D, 0x01, 0x3E]).map .ok := by decide
/-- V-WIN-9: no CASET is sent either. -/
theorem test_set_window_row :
    let t := after (.setWindow 0 0xEF 0x0100 0x0050) (awake 9 20)
    (t.trace, t.outcomes.getLast?) = ([], some (.invalidArgument .row .windowPair)) := by decide

/-! ### Reserved headers -/

/-- V-ENC-2. -/
theorem test_reserved_b : reply .reservedB (power 0) = some (.refused 0x0B) := by decide
/-- V-ENC-3. -/
theorem test_reserved_f : reply (.reservedCToF 3) (awake 9 0) = some (.refused 0x0F) := by decide
/-- V-ENC-5. -/
theorem test_reserved_rsv :
    let t := after (.reservedRsv 8 0) (awake 9 0)
    (t.outcomes.getLast?, t.mode) = (some (.refused 0x80), .awake) := by decide

/-! ### Bring-up -/

set_option maxRecDepth 20000 in
/-- V-INIT-1, its 148 entries written out; the trailer and D0 are the spec's parameters. -/
theorem test_init_trace :
    (after (.init cfg1) (power 148)).trace =
      ([Event.setRST .low, .setRST .high] ++ cmd 0x36 [0x70] ++ cmd 0x3A [0x55] ++
        cmd 0xB2 [0x0C, 0x0C, 0x00, 0x33, 0x33] ++ cmd 0xB7 [0x35] ++ cmd 0xBB [0x19] ++ cmd 0xC0 [0x2C] ++
        (cmd 0xC2 [0x01]).take 8 ++ [Event.spiWrite (0x01 :: if Config.c2TrailerSent then [0xFF] else []), .setCS .high] ++
        cmd 0xC3 [0x12] ++ cmd 0xC4 [0x20] ++ cmd 0xC6 [0x0F] ++ cmd 0xD0 [0xA4, 0xA1] ++
        cmd 0xE0 [0xD0, 0x04, 0x0D, 0x11, 0x13, 0x2B, 0x3F, 0x54, 0x4C, 0x18, 0x0D, 0x0B, 0x1F, 0x23] ++
        cmd 0xE1 [0xD0, 0x04, 0x0C, 0x11, 0x13, 0x2C, 0x3F, 0x44, 0x51, 0x2F, 0x1F, 0x1F, 0x20, 0x23] ++
        cmd 0x21 [] ++ cmd 0x11 [] ++ cmd 0x29 [] ++ [Event.pwmDuty Config.d0]).map .ok := by rfl
/-- V-INIT-4, from Awake. -/
theorem test_init_bpa :
    reply (.init { cfg1 with porch := { cfg1.porch with bpa := 0x80 } }) (awake 26214 148) =
      some (.invalidArgument (.cfg .bpa) (.bits 7)) := by decide
/-- V-INIT-5. -/
theorem test_init_gamma :
    reply (.init { cfg1 with pgamma := { cfg1.pgamma with c8 := 0x08 } }) (awake 26214 148) =
      some (.invalidArgument (.cfg (.pgam 8)) (.maskBits 8)) := by decide
/-- V-INIT-9: the first call fails. -/
theorem test_init_fails :
    let t := after (.init cfg1) (awakeWith 26214 [.fails 0])
    (t.trace, t.mode, t.rst, t.duty) =
      ([.failed (.setRST .low)], .uninitialized, .unknown, .value 26214) := by decide

/-! ### Names, ranges and codes -/

theorem test_text_bpa : (ArgName.cfg .bpa).text = "porch.bpa" ∧ (ValidRange.bits 7).text = "0..127" := by decide
theorem test_text_gamma :
    (ArgName.cfg (.pgam 8)).text = "pgamma.pgam[8]" ∧ (ValidRange.maskBits 8).text = "bits of M[8]" := by decide
theorem test_mode_bits : [Mode.uninitialized, .awake, .asleep].map Mode.bits = [0b00, 0b01, 0b10] := by decide

end Sys2Proof.Tests
end

