-- ==== Sys2Proof/Tests/Witnesses.lean ====
section
/-! SUPPORT. For every statement with hypotheses, a concrete state and operands that meet all of them together; for a
statement of several clauses, one for each, at the boundaries of the ranges. -/

namespace Sys2Proof.Tests

open Sys2Proof.Machine Sys2Proof.Safety

/-! ### Encodings -/

theorem witness_DecodeOfEncodeIsTheInstruction : (Instr.nvgamctrl (.const 0x13)).wf = true := by decide
theorem witness_DecodedWireBytesAreTheEncoding : decode (.wire 0xC6 [0xFF]) = .ok (.frctrl2 7 31) := by rfl
theorem witness_DecodedRequestsAreTheEncoding :
    decode (.request 0x0A [.int 0, .int 0, .int 0]) = .ok (.packRgb565 0 0 0) ∧ headerRsv 0x0A = 0 ∧
      (headerOp 0x0A).toNat < 0xB := by refine ⟨rfl, ?_, ?_⟩ <;> decide
theorem witness_ReservedHeadersAreRefused :
    0xB ≤ (headerOp 0x0B).toNat ∧ headerRsv 0x10 ≠ 0 ∧ (power 0).hung = none := by decide
theorem witness_ReservedRequestsEndRefused : (asleep 1 0).hung = none := by rfl
theorem witness_WireCommandsHaveTheTablesLengths :
    wireRow (.vdvvrhen 1 true) = some (0xC2, 2) ∧ wireRow .sleep = none := by decide
theorem witness_BringUpCommandsCarryTheRulesBytes : cfgLegal cfg1 = true := by decide
/-- R64: the first and the last mask, at their largest values. -/
theorem witness_FieldLegality :
    (⟨.cfg (.pgam 1), .maskBits 1, 0xFF⟩ : FieldCheck).legal = true ∧
    (⟨.cfg (.ngam 14), .maskBits 14, 0x3F⟩ : FieldCheck).legal = true ∧
    (⟨.cfg (.ngam 14), .maskBits 14, 0x40⟩ : FieldCheck).legal = false := by decide

/-! ### The step and the run -/

/-- A host's run of these items from power-on, the transport giving these answers. -/
def hostRun (items : List Item) (answers : List Answer) : State :=
  { State.reset with reqs := items, answers := answers }

theorem witness_StepRunsTheNextItem_runs :
    (hostRun [.request 0x03 []] []).reqs[(hostRun [.request 0x03 []] []).pc]? = some (.request 0x03 []) ∧
      decode (.request 0x03 []) = .ok .sleep := by exact ⟨rfl, rfl⟩
theorem witness_StepRunsTheNextItem_refuses :
    (hostRun [.request 0x03 [.int 0]] []).reqs[(hostRun [.request 0x03 [.int 0]] []).pc]? =
        some (.request 0x03 [.int 0]) ∧
      decode (.request 0x03 [.int 0]) = .error (.operandShape 0x03) := by exact ⟨rfl, rfl⟩
theorem witness_StepRunsTheNextItem_idles : State.reset.reqs[State.reset.pc]? = none := by rfl
theorem witness_HangLeavesNoOutcomeForEver :
    (hostRun [.wire 0x28 []] [.never 0]).hung = none ∧
    ∃ t, step (hostRun [.wire 0x28 []] [.never 0]) = .next t ∧ t.hung = some (.setCS .high) := by
  exact ⟨rfl, _, rfl, rfl⟩
theorem witness_PcAdvancesOncePerOutcome :
    (awake 9 5).hung = none ∧ ∃ t, exec .slpin (awake 9 5) = .next t := by exact ⟨rfl, _, rfl⟩

/-! ### Emit and SendCmd -/

theorem witness_EmitOutcomes :
    (awakeWith 9 [.completes]).answers = .completes :: [] ∧ (awakeWith 9 [.fails 0]).answers = .fails 0 :: [] ∧
      (awakeWith 9 [.never 3]).answers = .never 3 :: [] := by exact ⟨rfl, rfl, rfl⟩
/-- Absent, present but empty, and present data. -/
theorem witness_SendCmdSendsItsPhases :
    (awake 9 5).answers = List.replicate (cmd 0x2C ((none : Option (List Byte)).getD [])).length .completes ++ [] ∧
    (awake 9 5).answers = List.replicate (cmd 0x2C ((some []).getD [])).length .completes ++ [] ∧
    (awake 9 10).answers = List.replicate (cmd 0x2C ((some [1]).getD [])).length .completes ++ [] := by decide

/-! ### Whole-machine rules -/

theorem witness_RejectedRequestsTouchNothing :
    (power 0).hung = none ∧ ∃ t, exec .sleep (power 0) = .next t ∧
      t.outcomes = (power 0).outcomes ++ [.invalidState] ∧ quiet .invalidState = true := by
  exact ⟨rfl, _, rfl, rfl, rfl⟩
theorem witness_OkMeansEveryCallCompleted :
    (awake 9 5).hung = none ∧ ∃ t, exec .slpin (awake 9 5) = .next t ∧
      t.outcomes = (awake 9 5).outcomes ++ [.ok .none] := by exact ⟨rfl, _, rfl, rfl⟩
theorem witness_TransportErrorKeepsThePrefix :
    (awakeWith 9 [.completes, .fails 0]).hung = none ∧
    ∃ t, exec .slpin (awakeWith 9 [.completes, .fails 0]) = .next t ∧
      t.outcomes = (awakeWith 9 [.completes, .fails 0]).outcomes ++ [.transportError (.setDC .low)] := by
  exact ⟨rfl, _, rfl, rfl⟩
theorem witness_TraceGrowsBySeq :
    (awakeWith 9 [.fails 0]).hung = none ∧ ∃ t, exec .wake (awakeWith 9 [.fails 0]) = .next t := by
  exact ⟨rfl, _, rfl⟩
theorem witness_CallsFollowTheSequence :
    (∀ d', (awake 9 11).duty = .value d' → d' = 9) ∧ (awake 9 11).hung = none ∧
      ∃ t, exec .wake (awake 9 11) = .next t := by
  refine ⟨fun d' h => ?_, rfl, _, rfl⟩
  cases h
  rfl
theorem witness_RequestEndsWhenCallsReturn :
    Valued (awake 9 148) ∧ (awake 9 148).hung = none ∧ 148 ≤ (awake 9 148).answers.length ∧
      ∀ a ∈ (awake 9 148).answers, ∀ n, a ≠ .never n := by
  refine ⟨by decide, rfl, by simp [awake, awakeWith], fun a ha n => ?_⟩
  have : a = .completes := List.eq_of_mem_replicate ha
  simp [this]
theorem witness_NoReadWithoutAValue : Valued (asleep 9 0) := by decide
theorem witness_SetupCheckComesFirst :
    hasSetupCheck (.dim none) = true ∧ (power 0).hung = none ∧ (power 0).mode = .uninitialized := by decide

/-- A bus write that completes, one of which one byte of two arrives, and a call that never returns. -/
theorem witness_BusBytesAreWhatTheCallsDelivered :
    (awake 9 5).hung = none ∧ (∃ t, exec .slpin (awake 9 5) = .next t ∧ t.onBus = [0x10]) ∧
    (∃ t, exec (.ramwr [7, 8]) (awakeWith 9 (List.replicate 8 .completes ++ [.fails 1])) = .next t ∧
      t.onBus = [0x2C, 7]) ∧
    ∃ t, exec .slpin (awakeWith 9 [.never 0]) = .next t ∧ t.onBus = [] := by
  exact ⟨rfl, ⟨_, rfl, rfl⟩, ⟨_, rfl, rfl⟩, _, rfl, rfl⟩

/-! ### Invariants -/

/-- A run whose next request is a SLEEP, from Awake. -/
def sleeping : State := { awake 9 11 with reqs := [.wire 0x28 [], .request 0x03 []] }

theorem witness_StepKeepsValued : Valued sleeping ∧ ∃ t, step sleeping = .next t := by exact ⟨by decide, _, rfl⟩
theorem witness_StepKeepsOutcomesCounted : Counted sleeping ∧ ∃ t, step sleeping = .next t := by
  exact ⟨by decide, _, rfl⟩
theorem witness_StepKeepsLevelsMatchingTrace :
    LevelsMatchTrace (hostRun [.wire 0x28 []] [.completes, .fails 0]) ∧
      ∃ t, step (hostRun [.wire 0x28 []] [.completes, .fails 0]) = .next t := by exact ⟨by decide, _, rfl⟩
theorem witness_StepKeepsBusWritesBracketed :
    Bracketed (hostRun [.wire 0x28 []] [.completes, .fails 0]).trace ∧
      ∃ t, step (hostRun [.wire 0x28 []] [.completes, .fails 0]) = .next t := by
  refine ⟨fun pre x post bs h => ?_, _, rfl⟩
  simp [hostRun, State.reset] at h

/-! ### Frames -/

theorem witness_OnlyTheirRequestsWriteModeCspaceDuty :
    ∃ t, exec .slpout (awake 9 5) = .next t ∧ (∀ c, Instr.slpout ≠ .init c) ∧ Instr.slpout ≠ .sleep ∧
      Instr.slpout ≠ .wake ∧ ∀ b, Instr.slpout ≠ .dim (some b) := by
  refine ⟨_, rfl, ?_, ?_, ?_, ?_⟩ <;> simp
theorem witness_NoInstructionChangesTheProgram : ∃ t, exec .wake (awake 9 11) = .next t := by exact ⟨_, rfl⟩
theorem witness_OnlyInitDrivesReset : (∀ c, Instr.sleep ≠ .init c) ∧ ∃ t, exec .sleep (awake 9 11) = .next t := by
  exact ⟨by simp, _, rfl⟩
theorem witness_FrameOfValueRequests : ∃ t, exec (.reservedRsv 1 0) (awake 9 0) = .next t := by exact ⟨_, rfl⟩
theorem witness_FrameOfBusSenders : isWire (.caset 0 1) = true ∧ ∃ t, exec (.caset 0 1) (awake 9 10) = .next t := by
  exact ⟨rfl, _, rfl⟩
theorem witness_FrameOfPowerRequests :
    (∃ t, exec .sleep (awake 9 11) = .next t) ∧ (∃ t, exec .wake (asleep 9 11) = .next t) ∧
      ∃ t, exec (.dim none) (awake 9 1) = .next t := by exact ⟨⟨_, rfl⟩, ⟨_, rfl⟩, _, rfl⟩

/-! ### INIT -/

theorem witness_InitCompletes : cfgLegal cfg1 = true ∧ Completing 148 [] (power 148) := by decide
set_option maxRecDepth 20000 in
theorem witness_StateAfterInitEndsWithOk :
    (power 148).hung = none ∧ ∃ t, exec (.init cfg1) (power 148) = .next t ∧
      t.outcomes = (power 148).outcomes ++ [.ok .none] := by exact ⟨rfl, _, rfl, rfl⟩
/-- V-INIT-6: `madctl.my = 2` is the first field of the table. -/
theorem witness_InitRefusesTheFirstIllegalField :
    ∃ after, cfgTable { cfg1 with madctl := { cfg1.madctl with my := 2 } } =
        [] ++ (⟨.cfg .my, .bits 1, 2⟩ : FieldCheck) :: after ∧
      (([] : List FieldCheck).all fun r => r.legal) = true ∧
      (⟨.cfg .my, .bits 1, 2⟩ : FieldCheck).legal = false ∧ (power 0).hung = none := by
  exact ⟨_, rfl, rfl, rfl, rfl⟩
/-- The last field of the table, all others legal. -/
theorem witness_InitRefusesTheLastField :
    let c := { cfg1 with ngamma := { cfg1.ngamma with c14 := 0x40 } }
    cfgTable c = (cfgTable c).take 60 ++ [⟨.cfg (.ngam 14), .maskBits 14, 0x40⟩] ∧
      (((cfgTable c).take 60).all fun r => r.legal) = true ∧
      (⟨.cfg (.ngam 14), .maskBits 14, 0x40⟩ : FieldCheck).legal = false := by decide
theorem witness_FailedInitLeavesUninitialized :
    (awakeWith 9 [.fails 0]).hung = none ∧ ∃ t, exec (.init cfg1) (awakeWith 9 [.fails 0]) = .next t ∧
      t.outcomes = (awakeWith 9 [.fails 0]).outcomes ++ [.transportError (.setRST .low)] := by
  exact ⟨rfl, _, rfl, rfl⟩
set_option maxRecDepth 20000 in
/-- The last call fails. -/
theorem witness_FailedInitLeavesUninitialized_last :
    ∃ t, exec (.init cfg1) (awakeWith 9 (List.replicate 147 .completes ++ [.fails 0])) = .next t ∧
      t.outcomes = [.ok .none, .transportError (.pwmDuty Config.d0)] := by
  exact ⟨_, rfl, rfl⟩
/-- A call that never returns. -/
theorem witness_FailedInitLeavesUninitialized_hang :
    ∃ t, exec (.init cfg1) (awakeWith 9 [.never 0]) = .next t ∧ t.hung = some (.setRST .low) := by
  exact ⟨_, rfl, rfl⟩

/-! ### Colour space and frame buffer -/

theorem witness_ColorSpaceReportsCspace :
    ((power 0).hung = none ∧ (power 0).mode = .uninitialized) ∧
    (asleep 9 0).hung = none ∧ (asleep 9 0).mode ≠ .uninitialized ∧ (asleep 9 0).cspace = .value .rgb565 := by decide
/-- The channels' boundaries: 0 and 255 are legal, -1 and 256 are not. -/
theorem witness_PackColorValue :
    (power 0).hung = none ∧ LegalChannel 0 ∧ LegalChannel 255 ∧ ¬ LegalChannel (-1) ∧ ¬ LegalChannel 256 := by decide
theorem witness_PackRgb565Value :
    (awake 9 0).hung = none ∧ LegalChannel 255 ∧ LegalChannel 0 ∧ ¬ LegalChannel (-1) ∧ ¬ LegalChannel 256 := by decide
theorem witness_MakeFrameBufferSizedToPanel :
    ((power 0).hung = none ∧ (power 0).mode = .uninitialized) ∧
    (awake 9 0).hung = none ∧ (awake 9 0).mode ≠ .uninitialized ∧ (awake 9 0).cspace = .value .rgb565 := by decide
/-- An empty region and a region of one byte. -/
theorem witness_ShowSendsWindowThenPixels :
    (asleep 9 25).mode ≠ .uninitialized ∧ Completing (if ([] : List Byte) = [] then 25 else 30) [] (asleep 9 25) ∧
      (awake 9 30).mode ≠ .uninitialized ∧ Completing (if ([7] : List Byte) = [] then 25 else 30) [] (awake 9 30) := by
  decide
theorem witness_AnyPrefixOfAFailedWriteMayArrive_call :
    (awakeWith 9 [.fails 1]).answers = .fails 1 :: [] := by rfl
theorem witness_AnyPrefixOfAFailedWriteMayArrive :
    ([1, 2] : List Byte) ≠ [] ∧ (awakeWith 9 (List.replicate 28 .completes ++ [.fails 2])).mode ≠ .uninitialized ∧
      (awakeWith 9 (List.replicate 28 .completes ++ [.fails 2])).hung = none ∧
      (awakeWith 9 (List.replicate 28 .completes ++ [.fails 2])).answers =
        List.replicate 28 .completes ++ .fails 2 :: [] := by decide
theorem witness_ShowEqualsWindowThenMemoryWrite :
    ([1, 2] : List Byte) ≠ [] ∧ (awake 9 30).mode ≠ .uninitialized ∧ Completing 30 [] (awake 9 30) := by decide

/-! ### Power and brightness -/

theorem witness_SleepDarkensThenPowersDown : (awake 9 11).mode ≠ .uninitialized ∧ Completing 11 [] (awake 9 11) := by
  decide
theorem witness_WakeRestoresTheStoredDuty :
    (asleep 9 11).mode ≠ .uninitialized ∧ (asleep 9 11).duty = .value 9 ∧ Completing 11 [] (asleep 9 11) := by decide
/-- DIM 0, DIM 1 and DIM. -/
theorem witness_DimStoresAndApplies :
    (awake 9 1).mode ≠ .uninitialized ∧ inUnitInterval 0 = true ∧ inUnitInterval 0x3FF0000000000000 = true ∧
      (awake 9 1).duty = .value 9 ∧ Completing 1 [] (awake 9 1) := by decide
/-- SLEEP whose second call fails, WAKE whose first never returns, and DIM whose call fails. -/
theorem witness_FailedPowerRequestsKeepTheirOrder :
    (∃ t, exec .sleep (awakeWith 9 [.completes, .fails 0]) = .next t ∧
      t.outcomes = (awakeWith 9 []).outcomes ++ [.transportError (.setCS .high)]) ∧
    (∃ t, exec .wake (awakeWith 9 [.never 0]) = .next t ∧ t.hung = some (.setCS .high)) ∧
    inUnitInterval 0 = true ∧ (awakeWith 9 [.fails 0]).mode ≠ .uninitialized ∧
    ∃ t, exec (.dim (some 0)) (awakeWith 9 [.fails 0]) = .next t ∧
      t.outcomes = (awakeWith 9 []).outcomes ++ [.transportError (.pwmDuty (dutyOf 0))] := by
  exact ⟨⟨_, rfl, rfl⟩, ⟨_, rfl, rfl⟩, by decide, by decide, _, rfl, rfl⟩
/-- Just above 1, -0.0 and 1. -/
theorem witness_DimRefusesOutsideTheUnitInterval :
    (awake 9 0).hung = none ∧ (awake 9 0).mode ≠ .uninitialized ∧
    (0x3FF0000000000000 < (0x3FF0000000000001 : BitVec 64).toNat ∧
      (0x3FF0000000000001 : BitVec 64).toNat ≠ 0x8000000000000000) ∧
    (0x8000000000000000 : BitVec 64).toNat = 0x8000000000000000 ∧
    (0x3FF0000000000000 : BitVec 64).toNat ≤ 0x3FF0000000000000 := by decide
theorem witness_SleepThenWakeRestoresTheDuty :
    (awake 26214 22).mode ≠ .uninitialized ∧ (awake 26214 22).duty = .value 26214 ∧
      Completing 22 [] (awake 26214 22) := by decide
theorem witness_RoundHalfEvenIsNearest : 0 < 2 ∧ roundHalfEven 5 2 = 2 ∧ roundHalfEven 7 2 = 4 := by decide
/-- 2^53 + 1 and 2^53 + 3 lie half way: ties go to 2^53 and 2^53 + 4. -/
theorem witness_RoundTo53IsNearest :
    roundTo53 9007199254740993 = 9007199254740992 ∧ roundTo53 9007199254740995 = 9007199254740996 := by
  decide +kernel
/-- A subnormal (exponent field 0) and 0.5 (not 0). -/
theorem witness_DutyOfIsInRangeAndExact_fields :
    inUnitInterval 1 = true ∧ ((1 : BitVec 64).extractLsb' 52 11).toNat = 0 ∧
      ((0x3FE0000000000000 : BitVec 64).extractLsb' 52 11).toNat = 1022 := by decide
theorem witness_DutyOfIsInRangeAndExact :
    inUnitInterval 0x3FE0000000000000 = true ∧ 65535 < 2 ^ 53 ∧
      significand 0x3FE0000000000000 * 65535 = 65535 * 2 ^ 52 := by decide

/-! ### Wire protocol and window -/

/-- Opcodes 0 and 255; data absent and present. -/
theorem witness_SendCommandIsTransparent :
    (awake 9 5).mode ≠ .uninitialized ∧ (0 : Int) ≤ 0 ∧ (255 : Int) ≤ 255 ∧
      Completing (if (none : Option (List Byte)).getD [] = [] then 5 else 10) [] (awake 9 5) ∧
      Completing (if (some ([1] : List Byte)).getD [] = [] then 5 else 10) [] (awake 9 10) := by decide
theorem witness_SendCommandRefusesWideOpcode :
    (awake 9 0).hung = none ∧ (awake 9 0).mode ≠ .uninitialized ∧ (-1 : Int) < 0 ∧ (255 : Int) < 256 := by decide
/-- The widest legal pair, and illegal ones: start = end, end at the limit, start below 0. -/
theorem witness_SetWindowChecksThenSends :
    (awake 9 20).mode ≠ .uninitialized ∧ LegalPair 0 0x013E ∧ Completing 20 [] (awake 9 20) ∧
      ¬ LegalPair 5 5 ∧ ¬ LegalPair 0 0x013F ∧ ¬ LegalPair (-1) 10 := by decide
theorem witness_WireCommandsSendTheirBytes :
    encode .slpin = .wire 0x10 [] ∧ Completing (if ([] : List Byte) = [] then 5 else 10) [] (power 5) ∧
    encode (.madctl 0 1 1 1 0 0) = .wire 0x36 [0x70] ∧
      Completing (if ([0x70] : List Byte) = [] then 5 else 10) [] (power 10) := by
  refine ⟨rfl, ?_, rfl, ?_⟩ <;> decide

end Sys2Proof.Tests
end

section
/-! What every request does, whatever its instruction: one rule for all 35 arms of `exec`, and O17 from it. -/

namespace Sys2Proof.Machine

open Sys2Proof.Safety

/-! ### A request in progress -/

/-- `P` of the state a request stands in while it goes on or hangs, `Q` of the outcome and the state it has ended
with. -/
def Run.Meets (P : State → Prop) (Q : Reply → State → Prop) : Run → Prop
  | .going s => P s
  | .ended o s => Q o s
  | .stuck _ s => P s
  | .fault _ => True

/-- The calls and the register writes of a request keep `P`, and where `P` holds a failed call (R173) or an `Ok`
(R170) ends the request with `Q`. The outcomes of the checks, which come first (R18), are not spoken of. -/
structure Carried (P : State → Prop) (Q : Reply → State → Prop) : Prop where
  completed : ∀ e s, P s → P (s.completed e)
  stall : ∀ e n s, P s → P (s.stall e n)
  setMode : ∀ m s, P s → P (s.setMode m)
  setDuty : ∀ d s, P s → P (s.setDuty d)
  setCspace : ∀ c s, P s → P (s.setCspace c)
  failed : ∀ e n s, P s → Q (.transportError e) (s.failed e n)
  ok : ∀ v s, P s → Q (.ok v) s

section Requests

variable {P : State → Prop} {Q : Reply → State → Prop} {s : State}

theorem Run.Meets.andThen {r : Run} {k : State → Run} (hr : r.Meets P Q) (hk : ∀ u, P u → (k u).Meets P Q) :
    (r.andThen k).Meets P Q := by
  cases r with
  | going u => exact hk u hr
  | ended o u => exact hr
  | stuck e u => exact hr
  | fault f => trivial

theorem setUp_meets {k : State → Run} (hq : ∀ o, quiet o = true → Q o s) (hk : (k s).Meets P Q) :
    (setUp k s).Meets P Q := by
  by_cases hm : s.mode = .uninitialized
  · rw [setUp_uninitialized k hm]
    exact hq _ rfl
  · rwa [setUp_set k hm]

theorem checkFields_meets {k : State → Run} (cs : List FieldCheck) (hq : ∀ o, quiet o = true → Q o s)
    (hk : (k s).Meets P Q) : (checkFields cs k s).Meets P Q := by
  obtain ⟨-, h⟩ | ⟨pre, c, post, -, -, -, h⟩ := checkFields_cases cs k s <;> rw [h]
  · exact hk
  · exact hq _ rfl

theorem readCspace_meets {k : ColorSpace → State → Run} (hk : ∀ c, (k c s).Meets P Q) :
    (readCspace k s).Meets P Q := by
  cases h : s.cspace with
  | noValue => simp [readCspace, h, Run.Meets]
  | value c => rw [readCspace_value k h]; exact hk c

theorem readDuty_meets {k : U16 → State → Run} (hk : ∀ d, (k d s).Meets P Q) : (readDuty k s).Meets P Q := by
  cases h : s.duty with
  | noValue => simp [readDuty, h, Run.Meets]
  | value d => rw [readDuty_value k h]; exact hk d

theorem emit_meets (h : Carried P Q) (e : Event) (hP : P s) : (emit e s).Meets P Q := by
  obtain ⟨-, he⟩ | ⟨n, -, he⟩ | ⟨n, -, he⟩ := emit_cases e s <;> rw [he]
  · exact h.completed e s hP
  · exact h.failed e n s hP
  · exact h.stall e n s hP

theorem emitAll_meets (h : Carried P Q) (es : List Event) (hP : P s) : (emitAll es s).Meets P Q := by
  induction es generalizing s with
  | nil => exact hP
  | cons e es ih => exact (emit_meets h e hP).andThen fun _ => ih

theorem applyDuty_meets (h : Carried P Q) (hP : P s) : (applyDuty s).Meets P Q :=
  readDuty_meets fun d => emit_meets h (.pwmDuty d) hP

theorem setWindow_meets (h : Carried P Q) (hq : ∀ o, quiet o = true → Q o s) (xs xe ys ye : Int) (hP : P s) :
    (setWindow xs xe ys ye s).Meets P Q := by
  obtain ⟨-, hw⟩ | ⟨-, -, hw⟩ | ⟨-, -, hw⟩ := setWindow_cases xs xe ys ye s <;> rw [hw]
  · exact hq _ rfl
  · exact hq _ rfl
  · exact emitAll_meets h _ hP

/-! ### A request from its issue to its end -/

/-- A request ends with an outcome in a state that meets `Q`, or hangs in one that meets `P`. -/
theorem Run.Meets.finish (h : Carried P Q) {r : Run} {t : State} (hr : r.Meets P Q) (ht : r.finish = .next t) :
    (∃ o u, Q o u ∧ t = u.close o) ∨ ∃ e u, P u ∧ t = { u with hung := some e } := by
  cases r with
  | going u => cases ht; exact .inl ⟨_, u, h.ok .none u hr, rfl⟩
  | ended o u => cases ht; exact .inl ⟨o, u, hr, rfl⟩
  | stuck e u => cases ht; exact .inr ⟨e, u, hr, rfl⟩
  | fault f => cases ht

/-- Every instruction issued is a request whose checks come before anything else (R18): they end it in the state it
started in, or its calls and writes follow. -/
theorem exec_meets (h : Carried P Q) (i : Instr) (hs : s.hung = none) (hP : P s.start)
    (hq : ∀ o, quiet o = true → Q o s.start) : ∃ r : Run, exec i s = r.finish ∧ r.Meets P Q := by
  cases i with
  | init cfg =>
    refine ⟨_, serve_free _ hs,
      checkFields_meets _ hq (.andThen (.andThen (emitAll_meets h _ (h.setMode _ _ hP)) ?_) ?_)⟩
    · exact fun u hu => applyDuty_meets h (h.setDuty _ _ (h.setCspace _ _ hu))
    · exact fun u hu => h.setMode _ u hu
  | makeFrameBuffer => exact ⟨_, serve_free _ hs, setUp_meets hq (readCspace_meets fun _ => h.ok _ _ hP)⟩
  | showFrame buf =>
    refine ⟨_, serve_free _ hs, setUp_meets hq (.andThen (setWindow_meets h hq _ _ _ _ hP) ?_)⟩
    exact fun u hu => emitAll_meets h _ hu
  | sleep =>
    refine ⟨_, serve_free _ hs, setUp_meets hq (.andThen (.andThen (.andThen (emit_meets h _ hP) ?_) ?_) ?_)⟩
    · exact fun u hu => emitAll_meets h _ hu
    · exact fun u hu => emitAll_meets h _ hu
    · exact fun u hu => h.setMode _ u hu
  | wake =>
    refine ⟨_, serve_free _ hs, setUp_meets hq (.andThen (.andThen (.andThen (emitAll_meets h _ hP) ?_) ?_) ?_)⟩
    · exact fun u hu => emitAll_meets h _ hu
    · exact fun u hu => applyDuty_meets h hu
    · exact fun u hu => h.setMode _ u hu
  | dim b =>
    refine ⟨_, serve_free _ hs, setUp_meets hq ?_⟩
    cases b with
    | none => exact applyDuty_meets h hP
    | some v =>
      dsimp only
      split
      · exact applyDuty_meets h (h.setDuty _ _ hP)
      · exact hq _ rfl
  | sendCommand opcode data =>
    refine ⟨_, serve_free _ hs, setUp_meets hq ?_⟩
    split
    · exact emitAll_meets h _ hP
    · exact hq _ rfl
  | setWindow xs xe ys ye => exact ⟨_, serve_free _ hs, setUp_meets hq (setWindow_meets h hq xs xe ys ye hP)⟩
  | colorSpace => exact ⟨_, serve_free _ hs, setUp_meets hq (readCspace_meets fun _ => h.ok _ _ hP)⟩
  | packColor r g b => exact ⟨_, serve_free _ hs, checkFields_meets _ hq (h.ok _ _ hP)⟩
  | packRgb565 r g b => exact ⟨_, serve_free _ hs, checkFields_meets _ hq (h.ok _ _ hP)⟩
  | reservedB => exact ⟨_, serve_free _ hs, hq _ rfl⟩
  | reservedCToF lo => exact ⟨_, serve_free _ hs, hq _ rfl⟩
  | reservedRsv rsv op => exact ⟨_, serve_free _ hs, hq _ rfl⟩
  | _ => exact ⟨_, serve_free _ hs, emitAll_meets h _ hP⟩

/-- Everything the execution of an instruction can leave: the request ended with an outcome in a state that meets `Q`,
or a call hangs in a state that meets `P`. -/
theorem exec_next_cases (h : Carried P Q) {i : Instr} {t : State} (hs : s.hung = none) (hP : P s.start)
    (hq : ∀ o, quiet o = true → Q o s.start) (ht : exec i s = .next t) :
    (∃ o u, Q o u ∧ t = u.close o) ∨ ∃ e u, P u ∧ t = { u with hung := some e } := by
  obtain ⟨r, hr, hmeets⟩ := exec_meets h i hs hP hq
  exact hmeets.finish h (hr.symm.trans ht)

end Requests

/-! ### The rejected request -/

/-- No part of a request writes the host's record (R208), and neither a failed call nor an `Ok` is a quiet outcome. -/
theorem carried_quiet_untouched (s : State) :
    Carried (fun u => u.outcomes = s.outcomes) (fun o u => quiet o = true → u = s.start) where
  completed _ _ hu := by simpa using hu
  stall _ _ _ hu := by simpa using hu
  setMode _ _ hu := hu
  setDuty _ _ hu := hu
  setCspace _ _ hu := hu
  failed _ _ _ _ hq := by cases hq
  ok _ _ _ hq := by cases hq

theorem start_close (o : Reply) (s : State) : s.start.close o = untouched s o := rfl

/-- Settles O17: the checks alone end a request with a quiet outcome, and they end it in the state it started in. A
hang is excluded because it adds no outcome. -/
theorem rejectedRequestsTouchNothing : Obligations.RejectedRequestsTouchNothing := by
  intro i s t o hs ht hout hquiet
  obtain ⟨o', u, hu, rfl⟩ | ⟨e, u, hu, rfl⟩ :=
    exec_next_cases (carried_quiet_untouched s) hs rfl (fun _ _ _ => rfl) ht
  · obtain ⟨-, hlast⟩ : u.outcomes = s.outcomes ∧ [o'] = [o] := List.append_inj' hout rfl
    obtain rfl : o' = o := List.singleton_inj.mp hlast
    rw [hu hquiet, start_close]
  · have hadded : s.outcomes = s.outcomes ++ [o] := hu.symm.trans hout
    simp at hadded

end Sys2Proof.Machine
end

section
/-! The step: what it runs (O11), and the rule every invariant of the step is proved by. -/

namespace Sys2Proof.Machine

variable {s t : State}

theorem step_of_decoded {it : Item} {i : Instr} (hit : s.reqs[s.pc]? = some it) (hi : decode it = .ok i) :
    step s = exec i s := by simp [step, State.fetch, hit, hi]

theorem step_of_undecodable {it : Item} {e : DecodeError} (hit : s.reqs[s.pc]? = some it)
    (he : decode it = .error e) : step s = .refused (.undecodable e) := by simp [step, State.fetch, hit, he]

theorem step_of_no_item (hit : s.reqs[s.pc]? = none) : step s = .next s := by simp [step, State.fetch, hit]

/-- Settles O11, one equation of the step for each clause. -/
theorem stepRunsTheNextItem : Obligations.StepRunsTheNextItem :=
  ⟨fun _ _ _ => step_of_decoded, fun _ _ _ => step_of_undecodable, fun _ => step_of_no_item⟩

/-- Everything a step can do: nothing, the execution of one instruction, or a refusal by name. -/
theorem step_cases (s : State) :
    step s = .next s ∨ (∃ i, step s = exec i s) ∨ ∃ e, step s = .refused (.undecodable e) := by
  cases hit : s.reqs[s.pc]? with
  | none => exact .inl (step_of_no_item hit)
  | some it =>
    cases hd : decode it with
    | ok i => exact .inr (.inl ⟨i, step_of_decoded hit hd⟩)
    | error e => exact .inr (.inr ⟨e, step_of_undecodable hit hd⟩)

/-- While an earlier call hangs, an instruction changes nothing (R176). -/
theorem exec_hung {e : Event} (i : Instr) (h : s.hung = some e) : exec i s = .next s := by
  cases i <;> exact serve_hung _ h

/-- What the execution of every instruction keeps, where no earlier call hangs, every step keeps. -/
theorem step_keeps {P : State → Prop} (hexec : ∀ i, s.hung = none → exec i s = .next t → P t) (hP : P s)
    (ht : step s = .next t) : P t := by
  obtain hnext | ⟨i, hi⟩ | ⟨e, he⟩ := step_cases s
  · obtain rfl : s = t := by simpa [hnext] using ht
    exact hP
  · cases hs : s.hung with
    | none => exact hexec i hs (hi.symm.trans ht)
    | some e =>
      obtain rfl : s = t := by simpa [hi, exec_hung i hs] using ht
      exact hP
  · simp [he] at ht

end Sys2Proof.Machine
end

section
/-! What every instruction keeps of the four outputs, pc, the host's record, TRACE and the host's requests. -/

namespace Sys2Proof.Machine

open Sys2Proof.Safety

variable {s t : State}

/-- What the calls and the register writes of a request keep, and its end or hang too, its execution keeps. -/
theorem exec_keeps {P : State → Prop} (h : Carried P fun _ => P) (hclose : ∀ o u, P u → P (u.close o))
    (hhang : ∀ e u, P u → P { u with hung := some e }) {i : Instr} (hs : s.hung = none) (hP : P s.start)
    (ht : exec i s = .next t) : P t := by
  obtain ⟨o, u, hu, rfl⟩ | ⟨e, u, hu, rfl⟩ := exec_next_cases h hs hP (fun _ _ => hP) ht
  · exact hclose o u hu
  · exact hhang e u hu

/-! ### The four outputs (R24, R25) -/

/-- The levels a state holds on its outputs. -/
def State.outputs (s : State) : Outputs := ⟨s.cs, s.dc, s.rst, s.pwm⟩

theorem State.completed_outputs (e : Event) (s : State) : (s.completed e).outputs = s.outputs.after (.ok e) := by
  cases e <;> rfl

theorem State.failed_outputs (e : Event) (n : Nat) (s : State) :
    (s.failed e n).outputs = s.outputs.after (.failed e) := by
  cases e <;> rfl

theorem State.stall_outputs (e : Event) (n : Nat) (s : State) : (s.stall e n).outputs = s.outputs := by
  simp [State.outputs]

theorem replay_append_singleton (xs : List Entry) (x : Entry) : replay (xs ++ [x]) = (replay xs).after x := by
  simp [replay]

theorem levelsMatchTrace_iff : LevelsMatchTrace s ↔ s.outputs = replay s.trace := Iff.rfl

/-- A call that ended makes of the outputs what its entry makes of them; nothing else writes either. -/
theorem carried_levelsMatchTrace : Carried LevelsMatchTrace fun _ => LevelsMatchTrace where
  completed e u hu := by
    rw [levelsMatchTrace_iff] at hu ⊢
    rw [State.completed_outputs, State.completed_trace, replay_append_singleton, hu]
  stall e n u hu := by
    rw [levelsMatchTrace_iff] at hu ⊢
    rw [State.stall_outputs, State.stall_trace, hu]
  setMode _ _ hu := hu
  setDuty _ _ hu := hu
  setCspace _ _ hu := hu
  failed e n u hu := by
    rw [levelsMatchTrace_iff] at hu ⊢
    rw [State.failed_outputs, State.failed_trace, replay_append_singleton, hu]
  ok _ _ hu := hu

/-- Settles O28: every call and write of a request keeps the match, so every instruction and every step does. -/
theorem stepKeepsLevelsMatchingTrace : Obligations.StepKeepsLevelsMatchingTrace := fun _ _ hP ht =>
  step_keeps (fun _ hs => exec_keeps carried_levelsMatchTrace (fun _ _ hu => hu) (fun _ _ hu => hu) hs hP) hP ht

/-! ### pc and the host's record (R27, R208) -/

/-- No call or register write of a request ends it: pc, the record and the hang are the issue's. -/
abbrev InProgress (s u : State) : Prop := u.hung = none ∧ u.pc = s.pc ∧ u.outcomes = s.outcomes

theorem carried_inProgress (s : State) : Carried (InProgress s) fun _ => InProgress s where
  completed _ _ hu := by simpa [InProgress] using hu
  stall _ _ _ hu := by simpa [InProgress] using hu
  setMode _ _ hu := hu
  setDuty _ _ hu := hu
  setCspace _ _ hu := hu
  failed _ _ _ hu := by simpa [InProgress] using hu
  ok _ _ hu := hu

/-- Settles O14: a request comes to its end or its hang with pc and the record untouched, and its end adds one to
each. -/
theorem pcAdvancesOncePerOutcome : Obligations.PcAdvancesOncePerOutcome := by
  intro i s t hs ht
  have hstart : InProgress s s.start := ⟨hs, rfl, rfl⟩
  obtain ⟨o, u, ⟨hhung, hpc, hout⟩, rfl⟩ | ⟨e, u, ⟨-, hpc, hout⟩, rfl⟩ :=
    exec_next_cases (carried_inProgress s) hs hstart (fun _ _ => hstart) ht
  · exact .inl ⟨hhung, by simp [hpc], o, by simp [hout]⟩
  · exact .inr ⟨⟨e, rfl⟩, hpc, hout⟩

/-- Settles O27: by O14 an instruction adds one outcome and one to pc, or nothing to either. -/
theorem stepKeepsOutcomesCounted : Obligations.StepKeepsOutcomesCounted := by
  intro s t hP ht
  refine step_keeps (fun i hs hi => ?_) hP ht
  obtain ⟨-, hpc, o, hout⟩ | ⟨-, hpc, hout⟩ := pcAdvancesOncePerOutcome i s t hs hi
  · simpa [Counted, hpc, hout] using hP
  · simpa [Counted, hpc, hout] using hP

/-! ### TRACE and SEQ (R26, R28) -/

/-- The calls since the issue from `s` stand in TRACE, are counted in SEQ and used up one answer each. -/
abbrev CallsRecorded (s u : State) : Prop :=
  ∃ new : List Entry, u.trace = s.trace ++ new ∧ u.seq = new.length ∧ u.answers = s.answers.drop u.seq

theorem CallsRecorded.record {s u v : State} {x : Entry} (hu : CallsRecorded s u) (htrace : v.trace = u.trace ++ [x])
    (hseq : v.seq = u.seq + 1) (hans : v.answers = u.answers.tail) : CallsRecorded s v := by
  obtain ⟨new, ht, hn, ha⟩ := hu
  exact ⟨new ++ [x], by simp [htrace, ht], by simp [hseq, hn], by rw [hans, ha, hseq, List.tail_drop]⟩

theorem carried_callsRecorded (s : State) : Carried (CallsRecorded s) fun _ => CallsRecorded s where
  completed e u hu := hu.record (State.completed_trace e u) (State.completed_seq e u) (State.completed_answers e u)
  stall _ _ _ hu := by simpa [CallsRecorded] using hu
  setMode _ _ hu := hu
  setDuty _ _ hu := hu
  setCspace _ _ hu := hu
  failed e n u hu := hu.record (State.failed_trace e n u) (State.failed_seq e n u) (State.failed_answers e n u)
  ok _ _ hu := hu

/-- Settles O20: nothing is recorded at the issue, and every call that ends records itself once. -/
theorem traceGrowsBySeq : Obligations.TraceGrowsBySeq := fun _ s _ hs ht =>
  exec_keeps (carried_callsRecorded s) (fun _ _ hu => hu) (fun _ _ hu => hu) hs ⟨[], by simp⟩ ht

/-! ### The host's requests (R207) and what is never taken back -/

/-- The requests are those of `s`, and its outcomes and its TRACE are only added to. -/
abbrev Extends (s u : State) : Prop := u.reqs = s.reqs ∧ s.outcomes <+: u.outcomes ∧ s.trace <+: u.trace

theorem Extends.refl (s : State) : Extends s s := ⟨rfl, ⟨[], by simp⟩, ⟨[], by simp⟩⟩

theorem Extends.trans {s u v : State} (hu : Extends s u) (hv : Extends u v) : Extends s v := by
  obtain ⟨hreqs, hout, htrace⟩ := hu
  obtain ⟨hreqs', hout', htrace'⟩ := hv
  exact ⟨hreqs'.trans hreqs, hout.trans hout', htrace.trans htrace'⟩

theorem carried_extends (s : State) : Carried (Extends s) fun _ => Extends s where
  completed _ _ hu := hu.trans (by simp [Extends])
  stall _ _ _ hu := hu.trans (by simp [Extends])
  setMode _ _ hu := hu
  setDuty _ _ hu := hu
  setCspace _ _ hu := hu
  failed _ _ _ hu := hu.trans (by simp [Extends])
  ok _ _ hu := hu

/-- Settles O32: calls add to TRACE, the end adds to the outcomes, and nothing writes the requests; while an earlier
call hangs nothing changes. -/
theorem noInstructionChangesTheProgram : Obligations.NoInstructionChangesTheProgram := by
  intro i s t ht
  cases hs : s.hung with
  | none =>
    exact exec_keeps (carried_extends s) (fun _ _ hu => hu.trans (by simp [Extends])) (fun _ _ hu => hu) hs
      (Extends.refl s) ht
  | some e =>
    obtain rfl : s = t := by simpa [exec_hung i hs] using ht
    exact Extends.refl s

end Sys2Proof.Machine
end

section
/-! MODE, CSPACE and DUTY: what each instruction may leave in them, and when a read of one faults. -/

namespace Sys2Proof.Machine

open Sys2Proof.Safety

/-- The three registers that no transport call writes (R21, R22, R23). -/
structure Registers where
  mode : Mode
  cspace : Held ColorSpace
  duty : Held U16

def State.registers (s : State) : Registers := ⟨s.mode, s.cspace, s.duty⟩

@[simp] theorem State.start_registers (s : State) : s.start.registers = s.registers := rfl

@[simp] theorem State.completed_registers (e : Event) (s : State) : (s.completed e).registers = s.registers := by
  simp [State.registers]

@[simp] theorem State.failed_registers (e : Event) (n : Nat) (s : State) :
    (s.failed e n).registers = s.registers := by simp [State.registers]

@[simp] theorem State.stall_registers (e : Event) (n : Nat) (s : State) : (s.stall e n).registers = s.registers := by
  simp [State.registers]

@[simp] theorem State.setMode_registers (m : Mode) (s : State) :
    (s.setMode m).registers = { s.registers with mode := m } := rfl

@[simp] theorem State.setCspace_registers (c : ColorSpace) (s : State) :
    (s.setCspace c).registers = { s.registers with cspace := .value c } := rfl

@[simp] theorem State.setDuty_registers (d : U16) (s : State) :
    (s.setDuty d).registers = { s.registers with duty := .value d } := rfl

/-- What an instruction issued where the registers are `g` may leave in them, however its calls are answered. -/
inductive MayLeave (g : Registers) : Instr → Registers → Prop
  | kept (i : Instr) : MayLeave g i g
  /-- INIT, stopped in the bring-up sequence (R131). -/
  | initBegun (cfg : Cfg) : MayLeave g (.init cfg) { g with mode := .uninitialized }
  /-- INIT, stopped at its last call (R131). -/
  | initValued (cfg : Cfg) : MayLeave g (.init cfg) ⟨.uninitialized, .value .rgb565, .value Config.d0⟩
  /-- INIT, complete (R131, R191). -/
  | initDone (cfg : Cfg) : MayLeave g (.init cfg) ⟨.awake, .value .rgb565, .value Config.d0⟩
  /-- SLEEP, complete, after its setup check (R100, R174). -/
  | slept (h : g.mode ≠ .uninitialized) : MayLeave g .sleep { g with mode := .asleep }
  /-- WAKE, complete, after its setup check (R101, R174). -/
  | woken (h : g.mode ≠ .uninitialized) : MayLeave g .wake { g with mode := .awake }
  /-- DIM with an operand in [0, 1], whether or not its call completes (R102). -/
  | dimmed (b : BitVec 64) : MayLeave g (.dim (some b)) { g with duty := .value (dutyOf b) }

/-! ### The registers of a request in progress -/

/-- The registers of the state a request has reached meet `P`; it has made a forbidden read only where `F`. -/
def Run.LeavesRegisters (P : Registers → Prop) (F : Prop) : Run → Prop
  | .going s => P s.registers
  | .ended _ s => P s.registers
  | .stuck _ s => P s.registers
  | .fault _ => F

section Requests

variable {P : Registers → Prop} {F : Prop} {s : State}

/-- After a part that leaves the registers at `g`, wherever it stops. -/
theorem Run.LeavesRegisters.andThen {g : Registers} {r : Run} {k : State → Run} (hr : r.LeavesRegisters (· = g) F)
    (hg : P g) (hk : ∀ u, u.registers = g → (k u).LeavesRegisters P F) : (r.andThen k).LeavesRegisters P F := by
  cases r with
  | going u => exact hk u hr
  | ended o u => obtain rfl : u.registers = g := hr; exact hg
  | stuck e u => obtain rfl : u.registers = g := hr; exact hg
  | fault f => exact hr

theorem emit_leavesRegisters (e : Event) (hP : P s.registers) : (emit e s).LeavesRegisters P F := by
  obtain ⟨-, he⟩ | ⟨n, -, he⟩ | ⟨n, -, he⟩ := emit_cases e s <;> rw [he] <;> simpa [Run.LeavesRegisters] using hP

theorem emitAll_leavesRegisters (es : List Event) (hP : P s.registers) : (emitAll es s).LeavesRegisters P F := by
  induction es generalizing s with
  | nil => exact hP
  | cons e es ih => exact .andThen (emit_leavesRegisters e rfl) hP fun u hu => ih (hu ▸ hP)

theorem setUp_leavesRegisters {k : State → Run} (hP : P s.registers)
    (hk : s.mode ≠ .uninitialized → (k s).LeavesRegisters P F) : (setUp k s).LeavesRegisters P F := by
  by_cases hm : s.mode = .uninitialized
  · rwa [setUp_uninitialized k hm]
  · rw [setUp_set k hm]
    exact hk hm

theorem checkFields_leavesRegisters {k : State → Run} (cs : List FieldCheck) (hP : P s.registers)
    (hk : (k s).LeavesRegisters P F) : (checkFields cs k s).LeavesRegisters P F := by
  obtain ⟨-, h⟩ | ⟨pre, c, post, -, -, -, h⟩ := checkFields_cases cs k s <;> rw [h]
  · exact hk
  · exact hP

theorem readCspace_leavesRegisters {k : ColorSpace → State → Run} (hF : s.cspace = .noValue → F)
    (hk : ∀ c, (k c s).LeavesRegisters P F) : (readCspace k s).LeavesRegisters P F := by
  cases h : s.cspace with
  | noValue => simpa [readCspace, h, Run.LeavesRegisters] using hF h
  | value c => rw [readCspace_value k h]; exact hk c

theorem applyDuty_leavesRegisters (hF : s.registers.duty = .noValue → F) (hP : P s.registers) :
    (applyDuty s).LeavesRegisters P F := by
  cases h : s.duty with
  | noValue => simpa [applyDuty, readDuty, h, Run.LeavesRegisters] using hF h
  | value d => rw [applyDuty_value h]; exact emit_leavesRegisters _ hP

theorem setWindow_leavesRegisters (xs xe ys ye : Int) (hP : P s.registers) :
    (setWindow xs xe ys ye s).LeavesRegisters P F := by
  obtain ⟨-, hw⟩ | ⟨-, -, hw⟩ | ⟨-, -, hw⟩ := setWindow_cases xs xe ys ye s <;> rw [hw]
  · exact hP
  · exact hP
  · exact emitAll_leavesRegisters _ hP

/-! ### From the issue to the end -/

theorem execInit_leavesRegisters (cfg : Cfg) (hs : s.hung = none) :
    ∃ r : Run, execInit cfg s = r.finish ∧ r.LeavesRegisters (MayLeave s.registers (.init cfg)) F := by
  refine ⟨_, serve_free _ hs, checkFields_leavesRegisters _ (.kept _) ?_⟩
  rw [Run.andThen_assoc]
  refine .andThen (emitAll_leavesRegisters _ rfl) (.initBegun cfg) fun u hu => ?_
  have hvalued : ((u.setCspace .rgb565).setDuty Config.d0).registers =
      ⟨.uninitialized, .value .rgb565, .value Config.d0⟩ := by simp [hu]
  refine .andThen (applyDuty_leavesRegisters nofun hvalued) (.initValued cfg) fun v hv => ?_
  simpa [Run.LeavesRegisters, hv] using MayLeave.initDone cfg

theorem execSleep_leavesRegisters (hs : s.hung = none) :
    ∃ r : Run, execSleep s = r.finish ∧ r.LeavesRegisters (MayLeave s.registers .sleep) F := by
  refine ⟨_, serve_free _ hs, setUp_leavesRegisters (.kept _) fun hm => ?_⟩
  refine .andThen (.andThen (.andThen (emit_leavesRegisters _ rfl) rfl ?_) rfl ?_) (.kept _) fun u hu => ?_
  · exact fun u hu => emitAll_leavesRegisters _ hu
  · exact fun u hu => emitAll_leavesRegisters _ hu
  · simpa [Run.LeavesRegisters, hu] using MayLeave.slept hm

theorem execWake_leavesRegisters (hs : s.hung = none) :
    ∃ r : Run, execWake s = r.finish ∧ r.LeavesRegisters (MayLeave s.registers .wake) (¬ Valued s) := by
  refine ⟨_, serve_free _ hs, setUp_leavesRegisters (.kept _) fun hm => ?_⟩
  refine .andThen (.andThen (.andThen (emitAll_leavesRegisters _ rfl) rfl ?_) rfl ?_) (.kept _) fun u hu => ?_
  · exact fun u hu => emitAll_leavesRegisters _ hu
  · exact fun u hu => applyDuty_leavesRegisters (fun hd hv => (hv hm).2 (by rwa [hu] at hd)) hu
  · simpa [Run.LeavesRegisters, hu] using MayLeave.woken hm

theorem execDim_leavesRegisters (b : Option (BitVec 64)) (hs : s.hung = none) :
    ∃ r : Run, execDim b s = r.finish ∧ r.LeavesRegisters (MayLeave s.registers (.dim b)) (¬ Valued s) := by
  refine ⟨_, serve_free _ hs, setUp_leavesRegisters (.kept _) fun hm => ?_⟩
  cases b with
  | none => exact applyDuty_leavesRegisters (fun hd hv => (hv hm).2 hd) (.kept _)
  | some v =>
    dsimp only
    split
    · exact applyDuty_leavesRegisters nofun (.dimmed v)
    · exact .kept _

/-- Every instruction issued leaves MODE, CSPACE and DUTY as `MayLeave` says, and reads one without a value only where
the invariant of R33 does not hold. -/
theorem exec_leavesRegisters (i : Instr) (hs : s.hung = none) :
    ∃ r : Run, exec i s = r.finish ∧ r.LeavesRegisters (MayLeave s.registers i) (¬ Valued s) := by
  have hkept : MayLeave s.registers i s.start.registers := .kept i
  have hcspace (hm : s.mode ≠ .uninitialized) (hc : s.cspace = .noValue) : ¬ Valued s := fun hv => (hv hm).1 hc
  cases i with
  | init cfg => exact execInit_leavesRegisters cfg hs
  | makeFrameBuffer =>
    exact ⟨_, serve_free _ hs,
      setUp_leavesRegisters hkept fun hm => readCspace_leavesRegisters (hcspace hm) fun _ => hkept⟩
  | showFrame buf =>
    refine ⟨_, serve_free _ hs, setUp_leavesRegisters hkept fun _ => ?_⟩
    exact .andThen (setWindow_leavesRegisters _ _ _ _ rfl) hkept fun u hu => emitAll_leavesRegisters _ (hu ▸ hkept)
  | sleep => exact execSleep_leavesRegisters hs
  | wake => exact execWake_leavesRegisters hs
  | dim b => exact execDim_leavesRegisters b hs
  | sendCommand opcode data =>
    refine ⟨_, serve_free _ hs, setUp_leavesRegisters hkept fun _ => ?_⟩
    split
    · exact emitAll_leavesRegisters _ hkept
    · exact hkept
  | setWindow xs xe ys ye =>
    exact ⟨_, serve_free _ hs, setUp_leavesRegisters hkept fun _ => setWindow_leavesRegisters xs xe ys ye hkept⟩
  | colorSpace =>
    exact ⟨_, serve_free _ hs,
      setUp_leavesRegisters hkept fun hm => readCspace_leavesRegisters (hcspace hm) fun _ => hkept⟩
  | packColor r g b => exact ⟨_, serve_free _ hs, checkFields_leavesRegisters _ hkept hkept⟩
  | packRgb565 r g b => exact ⟨_, serve_free _ hs, checkFields_leavesRegisters _ hkept hkept⟩
  | reservedB => exact ⟨_, serve_free _ hs, hkept⟩
  | reservedCToF lo => exact ⟨_, serve_free _ hs, hkept⟩
  | reservedRsv rsv op => exact ⟨_, serve_free _ hs, hkept⟩
  | _ => exact ⟨_, serve_free _ hs, emitAll_leavesRegisters _ hkept⟩

/-- The registers after the execution of an instruction. -/
theorem exec_next_registers {i : Instr} {t : State} (ht : exec i s = .next t) :
    MayLeave s.registers i t.registers := by
  cases hs : s.hung with
  | some e =>
    obtain rfl : s = t := by simpa [exec_hung i hs] using ht
    exact .kept i
  | none =>
    obtain ⟨r, hr, hregs⟩ := exec_leavesRegisters i hs
    rw [hr] at ht
    cases r with
    | going u => cases ht; exact hregs
    | ended o u => cases ht; exact hregs
    | stuck e u => cases ht; exact hregs
    | fault f => cases ht

theorem exec_ne_fault (i : Instr) (f : Fault) (hv : Valued s) : exec i s ≠ .fault f := by
  cases hs : s.hung with
  | some e => simp [exec_hung i hs]
  | none =>
    obtain ⟨r, hr, hregs⟩ := exec_leavesRegisters i hs
    rw [hr]
    cases r with
    | fault f' => exact absurd hv hregs
    | _ => nofun

end Requests

/-! ### The invariant of R33, and who writes MODE, CSPACE and DUTY -/

/-- `Safety.Valued`, of the three registers it speaks of. -/
abbrev Registers.Valued (g : Registers) : Prop := g.mode ≠ .uninitialized → g.cspace ≠ .noValue ∧ g.duty ≠ .noValue

theorem valued_iff_registers {s : State} : Valued s ↔ s.registers.Valued := Iff.rfl

/-- INIT writes MODE last, after both values; SLEEP and WAKE write it only where their setup check passed; DIM writes a
value. -/
theorem MayLeave.valued {g g' : Registers} {i : Instr} (h : MayLeave g i g') (hg : g.Valued) : g'.Valued := by
  cases h with
  | kept => exact hg
  | initBegun cfg => exact fun hm => absurd rfl hm
  | initValued cfg => exact fun hm => absurd rfl hm
  | initDone cfg => exact fun _ => ⟨nofun, nofun⟩
  | slept h => exact fun _ => hg h
  | woken h => exact fun _ => hg h
  | dimmed b => exact fun hm => ⟨(hg hm).1, nofun⟩

/-- Settles O26: what an instruction may leave in the three registers meets the invariant where they met it before. -/
theorem stepKeepsValued : Obligations.StepKeepsValued := fun _ _ hv ht =>
  step_keeps (fun _ _ hi => valued_iff_registers.mpr ((exec_next_registers hi).valued hv)) hv ht

/-- Settles O23: a step faults only as its instruction does, and none does where the invariant holds. -/
theorem noReadWithoutAValue : Obligations.NoReadWithoutAValue := by
  intro s f hv
  obtain hnext | ⟨i, hi⟩ | ⟨e, he⟩ := step_cases s
  · simp [hnext]
  · rw [hi]
    exact exec_ne_fault i f hv
  · simp [he]

/-- Each way to leave another MODE, CSPACE or DUTY belongs to an instruction that may write it (R21, R22, R23). -/
theorem MayLeave.frame {g g' : Registers} {i : Instr} (h : MayLeave g i g') :
    ((∀ c, i ≠ .init c) → i ≠ .sleep → i ≠ .wake → g'.mode = g.mode) ∧
    ((∀ c, i ≠ .init c) → g'.cspace = g.cspace) ∧
    ((∀ c, i ≠ .init c) → (∀ b, i ≠ .dim (some b)) → g'.duty = g.duty) := by
  cases h <;> simp

/-- Settles O31, by what an instruction may leave in the three registers. -/
theorem onlyTheirRequestsWriteModeCspaceDuty : Obligations.OnlyTheirRequestsWriteModeCspaceDuty :=
  fun _ _ _ ht => (exec_next_registers ht).frame

end Sys2Proof.Machine
end

section
/-! The calls performed in order, as one equation of the whole state, and where a sequence of calls stops (R44, R48,
R51). From these O15 and O46. -/

namespace Sys2Proof.Machine

open Sys2Proof.Safety

variable {s : State}

/-! ### One call -/

/-- A completed call as a whole state: the outputs are what its entry makes of them (R24, R25, R26, R28, R48). -/
theorem State.completed_eq (e : Event) (s : State) : s.completed e =
    { s with
      cs := (s.outputs.after (.ok e)).cs, dc := (s.outputs.after (.ok e)).dc
      rst := (s.outputs.after (.ok e)).rst, pwm := (s.outputs.after (.ok e)).pwm
      trace := s.trace ++ [.ok e], onBus := s.onBus ++ busBytes e
      seq := s.seq + 1, answers := s.answers.tail } := by
  cases e <;> simp [State.completed, State.record, State.drive, State.outputs, Outputs.after, busBytes]

@[simp] theorem State.completed_onBus (e : Event) (s : State) : (s.completed e).onBus = s.onBus ++ busBytes e := by
  rw [State.completed_eq]

@[simp] theorem State.failed_onBus (e : Event) (n : Nat) (s : State) :
    (s.failed e n).onBus = s.onBus ++ (busBytes e).take n := by
  cases e <;> simp [State.failed, State.spoil, busBytes]

@[simp] theorem State.stall_onBus (e : Event) (n : Nat) (s : State) :
    (s.stall e n).onBus = s.onBus ++ (busBytes e).take n := by
  cases e <;> simp [State.stall, busBytes]

/-- A failed bus write as a whole state: no level changes, and its first `n` bytes arrived (R48). -/
theorem State.failed_spiWrite (bs : List Byte) (n : Nat) (s : State) : s.failed (.spiWrite bs) n = { s with
    trace := s.trace ++ [.failed (.spiWrite bs)], onBus := s.onBus ++ bs.take n
    seq := s.seq + 1, answers := s.answers.tail } := rfl

/-- Settles O15: one clause for each answer of the transport. -/
theorem emitOutcomes : Obligations.EmitOutcomes := by
  refine ⟨fun e s as h => ?_, fun e n s as h => ?_, fun e n s as h => ?_⟩
  · exact ⟨_, emit_completes e h, by simp, by simp [h]⟩
  · exact ⟨_, emit_fails e h, by simp, by simp [h]⟩
  · exact ⟨_, emit_never e h, by simp, by simp, by simp⟩

/-! ### Calls in order -/

@[simp] theorem State.performed_onBus (es : List Event) (s : State) :
    (s.performed es).onBus = s.onBus ++ es.flatMap busBytes := by
  induction es generalizing s with
  | nil => simp
  | cons e es ih => simp [ih]

/-- The whole state after these calls, each completed: the outputs are what their entries make of them, and no other
field but TRACE, SEQ, the answers and the bus is written. -/
theorem State.performed_eq {o : Outputs} {es : List Event} (s : State)
    (ho : (es.map Entry.ok).foldl Outputs.after s.outputs = o) : s.performed es = { s with
      cs := o.cs, dc := o.dc, rst := o.rst, pwm := o.pwm
      trace := s.trace ++ es.map .ok, onBus := s.onBus ++ es.flatMap busBytes
      seq := s.seq + es.length, answers := s.answers.drop es.length } := by
  induction es generalizing s with
  | nil => subst ho; simp [State.outputs]
  | cons e es ih =>
    rw [State.performed_cons, ih (s.completed e) (by rw [State.completed_outputs]; exact ho), State.completed_eq]
    simp [Nat.add_comm, Nat.add_left_comm]

/-- Where the transport completes the first calls and fails the next, the sequence ends there (R44(b), R173). -/
theorem emitAll_fails {pre : List Event} (e : Event) (post : List Event) {n : Nat} {as : List Answer}
    (h : s.answers = List.replicate pre.length .completes ++ .fails n :: as) :
    emitAll (pre ++ e :: post) s = .ended (.transportError e) ((s.performed pre).failed e n) := by
  have hnext : (s.performed pre).answers = .fails n :: as := by simp [h]
  rw [emitAll_append, emitAll_completes pre _ h, Run.andThen_going, emitAll_cons, emit_fails e hnext,
    Run.andThen_ended]

theorem emitAll_eq_going {es : List Event} {u : State} (h : emitAll es s = .going u) : u = s.performed es := by
  obtain hg | ⟨pre, e, post, n, -, he⟩ | ⟨pre, e, post, n, -, he⟩ := emitAll_cases es s
  · exact Run.going.inj (h.symm.trans hg)
  · simp [he] at h
  · simp [he] at h

end Sys2Proof.Machine
end

section
/-! The bytes of the wire commands a request sends: the encoder's against the integer forms of R133 to R145 and of
R121. -/

namespace Sys2Proof.Machine

open Sys2Proof.Safety Sys2Proof.Layout

/-! ### Fields placed in a byte (R62) -/

/-- A field that fits its width (R113) lies in its byte where the integer form shifts it. -/
theorem place_fieldBits {w : Nat} {v : Int} (lsb : Nat) (h : fitsBits w v = true) :
    place lsb (fieldBits w v) = byte (v.toNat <<< lsb) := by
  obtain ⟨h0, hw⟩ : 0 ≤ v ∧ v ≤ 2 ^ w - 1 := by simpa [fitsBits] using h
  obtain ⟨n, rfl⟩ := Int.eq_ofNat_of_zero_le h0
  have hn : n < 2 ^ w := by exact_mod_cast Int.lt_of_le_sub_one hw
  apply BitVec.eq_of_toNat_eq
  simp [place, fieldBits, byte, Nat.mod_eq_of_lt hn, Nat.shiftLeft_eq]

theorem byte_or (a b : Nat) : byte (a ||| b) = byte a ||| byte b := BitVec.ofNat_or

theorem fieldBits_byte {v : Int} (h : 0 ≤ v) : fieldBits 8 v = byte v.toNat := by
  obtain ⟨n, rfl⟩ := Int.eq_ofNat_of_zero_le h
  rfl

theorem nonneg_of_fitsMask {k : Nat} {v : Int} (h : fitsMask k v = true) : 0 ≤ v := by
  simp only [fitsMask, Bool.and_eq_true, decide_eq_true_eq] at h
  exact h.1

theorem map_fieldBits_of_gammaRows {name : Nat → CfgField} {k : Nat} {l : List Int}
    (h : ((gammaRows name k l).all fun r => r.legal) = true) : l.map (fieldBits 8) = l.map fun v => byte v.toNat := by
  induction l generalizing k with
  | nil => rfl
  | cons v l ih =>
    simp only [gammaRows, List.all_cons, Bool.and_eq_true] at h
    obtain ⟨hv, hl⟩ := h
    rw [List.map_cons, List.map_cons, ih hl, fieldBits_byte (nonneg_of_fitsMask hv)]

/-- The bytes of a curve whose rows are legal (R144, R145). -/
theorem gammaBytes_eq {name : Nat → CfgField} {k : Nat} {c : Curve Int}
    (h : ((gammaRows name k c.toList).all fun r => r.legal) = true) : (c.map (fieldBits 8)).toList = gammaBytes c :=
  map_fieldBits_of_gammaRows h

/-! ### Coordinates (R63) -/

theorem hi8_ofInt {v : Int} (h : 0 ≤ v) : hi8 (BitVec.ofInt 16 v) = byte (v.toNat / 256) := by
  obtain ⟨n, rfl⟩ := Int.eq_ofNat_of_zero_le h
  apply BitVec.eq_of_toNat_eq
  have hbyte : n % 65536 / 256 % 256 = n / 256 % 256 := by omega
  simpa [hi8, byte, Nat.shiftRight_eq_div_pow] using hbyte

theorem lo8_ofInt {v : Int} (h : 0 ≤ v) : lo8 (BitVec.ofInt 16 v) = byte v.toNat := by
  obtain ⟨n, rfl⟩ := Int.eq_ofNat_of_zero_le h
  apply BitVec.eq_of_toNat_eq
  simp [lo8, byte]

/-- What SetWindow sends for legal pairs is CASET and RASET of their coordinates (R121). -/
theorem window_wireEvents {xs xe ys ye : Int} (hx : windowPair xs xe = true) (hy : windowPair ys ye = true) :
    wireEvents (.caset (BitVec.ofInt 16 xs) (BitVec.ofInt 16 xe)) ++
      wireEvents (.raset (BitVec.ofInt 16 ys) (BitVec.ofInt 16 ye)) = windowEvents xs xe ys ye := by
  obtain ⟨hxs, hxe, -⟩ : 0 ≤ xs ∧ xs < xe ∧ xe < Config.windowLimit := by simpa [windowPair] using hx
  obtain ⟨hys, hye, -⟩ : 0 ≤ ys ∧ ys < ye ∧ ye < Config.windowLimit := by simpa [windowPair] using hy
  have hxe0 : 0 ≤ xe := by omega
  have hye0 : 0 ≤ ye := by omega
  rw [wireEvents_eq rfl, wireEvents_eq rfl, hi8_ofInt hxs, lo8_ofInt hxs, hi8_ofInt hxe0, lo8_ofInt hxe0,
    hi8_ofInt hys, lo8_ofInt hys, hi8_ofInt hye0, lo8_ofInt hye0]
  rfl

/-! ### The bring-up commands (R131) -/

/-- The commands of a legal record are encoded with the opcodes and bytes of R133 to R148, in R131's order. -/
theorem bringUpCommands_encode {c : Cfg} (h : cfgLegal c = true) :
    (bringUpCommands c).map encode = (bringUp c).map fun p => Item.wire p.1 p.2 := by
  simp only [cfgLegal, cfgTable, List.all_append, Bool.and_eq_true] at h
  obtain ⟨⟨⟨⟨⟨⟨⟨⟨⟨⟨hmadctl, hcolmod⟩, hporch⟩, hgate⟩, hvcoms⟩, hlcm⟩, hsingles⟩, hfrctrl⟩, hpower⟩, hpgamma⟩,
    hngamma⟩ := h
  simp only [madctlRows, colmodRows, porchRows, gateRows, lcmRows, frctrlRows, powerRows, cfgRow, FieldCheck.legal,
    List.all_cons, List.all_nil, Bool.and_eq_true, and_true]
    at hmadctl hcolmod hporch hgate hvcoms hlcm hsingles hfrctrl hpower
  simp only [bringUpCommands, madctlCmd, colmodCmd, porchCmd, gateCmd, lcmCmd, frctrlCmd, powerCmd, List.map_append,
    List.map_cons, encode, place_fieldBits, hmadctl, hcolmod, hporch, hgate, hvcoms, hlcm, hsingles, hfrctrl, hpower,
    gammaBytes_eq hpgamma, gammaBytes_eq hngamma, ← byte_or]
  rfl

/-- The events of commands, from their encodings. -/
theorem flatMap_wireEvents {is : List Instr} {ps : List (Byte × List Byte)}
    (h : is.map encode = ps.map fun p => Item.wire p.1 p.2) :
    is.flatMap wireEvents = ps.flatMap fun p => cmd p.1 p.2 := by
  induction is generalizing ps with
  | nil => simp_all
  | cons i is ih =>
    cases ps with
    | nil => simp at h
    | cons p ps =>
      simp only [List.map_cons, List.cons.injEq] at h
      obtain ⟨hi, his⟩ := h
      rw [List.flatMap_cons, List.flatMap_cons, wireEvents_eq hi, ih his]

/-- What INIT sends before it applies the duty (R131). -/
theorem bringUpEvents_eq {c : Cfg} (h : cfgLegal c = true) :
    bringUpEvents c = resetPulse ++ (bringUp c).flatMap fun p => cmd p.1 p.2 := by
  rw [bringUpEvents, flatMap_wireEvents (bringUpCommands_encode h)]

end Sys2Proof.Machine
end

section
/-! The calls of every instruction, whatever the transport answers: a first part of its sequence, in order, and nothing
else of the state touched but MODE, CSPACE and DUTY (R44, R48, R51). From this O18, O21 and O25. -/

namespace Sys2Proof.Machine

open Sys2Proof.Safety

/-! ### States that differ in MODE, CSPACE and DUTY -/

/-- `s` with other values in the three registers that no transport call reads or writes. -/
def State.withRegisters (g : Registers) (s : State) : State :=
  { s with mode := g.mode, cspace := g.cspace, duty := g.duty }

section Registers

variable (g : Registers) (s : State)

@[simp] theorem State.withRegisters_trace : (s.withRegisters g).trace = s.trace := rfl
@[simp] theorem State.withRegisters_seq : (s.withRegisters g).seq = s.seq := rfl
@[simp] theorem State.withRegisters_outcomes : (s.withRegisters g).outcomes = s.outcomes := rfl
@[simp] theorem State.withRegisters_hung : (s.withRegisters g).hung = s.hung := rfl
@[simp] theorem State.withRegisters_onBus : (s.withRegisters g).onBus = s.onBus := rfl
@[simp] theorem State.withRegisters_withRegisters (g' : Registers) :
    (s.withRegisters g).withRegisters g' = s.withRegisters g' := rfl

@[simp] theorem State.completed_withRegisters (e : Event) :
    (s.withRegisters g).completed e = (s.completed e).withRegisters g := by cases e <;> rfl

@[simp] theorem State.failed_withRegisters (e : Event) (n : Nat) :
    (s.withRegisters g).failed e n = (s.failed e n).withRegisters g := by cases e <;> rfl

@[simp] theorem State.stall_withRegisters (e : Event) (n : Nat) :
    (s.withRegisters g).stall e n = (s.stall e n).withRegisters g := by cases e <;> rfl

@[simp] theorem State.performed_withRegisters (es : List Event) :
    (s.withRegisters g).performed es = (s.performed es).withRegisters g := by
  induction es generalizing s with
  | nil => rfl
  | cons e es ih => rw [State.performed_cons, State.completed_withRegisters, ih, State.performed_cons]

end Registers

/-! ### A request in progress -/

/-- The request, begun in `s`, has made the calls `es`, each completed, or was stopped among them: by a check or a
value, by a call that failed, or by one that never returned. -/
inductive Run.Follows (s : State) (es : List Event) : Run → Prop
  | going (g : Registers) : Follows s es (.going ((s.performed es).withRegisters g))
  | ended {done : List Event} {o : Reply} (g : Registers) (hdone : done <+: es) (ho : ∀ e, o ≠ .transportError e) :
    Follows s es (.ended o ((s.performed done).withRegisters g))
  | failed {done : List Event} {e : Event} (n : Nat) (g : Registers) (hdone : done ++ [e] <+: es) :
    Follows s es (.ended (.transportError e) (((s.performed done).failed e n).withRegisters g))
  | stuck {done : List Event} {e : Event} (n : Nat) (g : Registers) (hdone : done ++ [e] <+: es) :
    Follows s es (.stuck e (((s.performed done).stall e n).withRegisters g))
  | fault (f : Fault) : Follows s es (.fault f)

section Requests

variable {s : State} {es fs : List Event} {r : Run}

/-- Where the request began, the three registers do not matter. -/
theorem Run.Follows.of_withRegisters {g : Registers} (h : r.Follows (s.withRegisters g) es) : r.Follows s es := by
  cases h with
  | going g' => simpa using Run.Follows.going g'
  | ended g' hdone ho => simpa using Run.Follows.ended g' hdone ho
  | failed n g' hdone => simpa using Run.Follows.failed n g' hdone
  | stuck n g' hdone => simpa using Run.Follows.stuck n g' hdone
  | fault f => exact .fault f

theorem Run.Follows.of_performed (h : r.Follows (s.performed es) fs) : r.Follows s (es ++ fs) := by
  cases h with
  | going g => simpa only [← State.performed_append] using Run.Follows.going g
  | ended g hdone ho =>
    simpa only [← State.performed_append] using
      Run.Follows.ended g ((List.prefix_append_right_inj es).mpr hdone) ho
  | failed n g hdone =>
    rw [← State.performed_append]
    exact .failed n g (by simpa using hdone)
  | stuck n g hdone =>
    rw [← State.performed_append]
    exact .stuck n g (by simpa using hdone)
  | fault f => exact .fault f

theorem Run.Follows.andThen {k : State → Run} (h : r.Follows s es) (hk : ∀ u, r = .going u → (k u).Follows u fs) :
    (r.andThen k).Follows s (es ++ fs) := by
  have hes : es <+: es ++ fs := List.prefix_append es fs
  cases h with
  | going g => exact (hk _ rfl).of_withRegisters.of_performed
  | ended g hdone ho => exact .ended g (hdone.trans hes) ho
  | failed n g hdone => exact .failed n g (hdone.trans hes)
  | stuck n g hdone => exact .stuck n g (hdone.trans hes)
  | fault f => exact .fault f

/-- The write of MODE that ends a request is no call. -/
theorem Run.Follows.thenSetMode (m : Mode) (h : r.Follows s es) :
    (r.andThen fun u => .going (u.setMode m)).Follows s es := by
  have hset (u : State) : (Run.going (u.setMode m)).Follows u [] := .going { u.registers with mode := m }
  simpa using h.andThen fun u _ => hset u

theorem ended_follows {o : Reply} (ho : ∀ e, o ≠ .transportError e) : (Run.ended o s).Follows s es :=
  .ended s.registers List.nil_prefix ho

theorem emit_follows (e : Event) (s : State) : (emit e s).Follows s [e] := by
  obtain ⟨-, h⟩ | ⟨n, -, h⟩ | ⟨n, -, h⟩ := emit_cases e s <;> rw [h]
  · exact .going (s.completed e).registers
  · exact .failed (done := []) n (s.failed e n).registers List.prefix_rfl
  · exact .stuck (done := []) n (s.stall e n).registers List.prefix_rfl

theorem emitAll_follows (es : List Event) (s : State) : (emitAll es s).Follows s es := by
  induction es generalizing s with
  | nil => exact .going s.registers
  | cons e es ih => exact (emit_follows e s).andThen fun u _ => ih u

/-- A wire command sent is the calls of its encoding (R59, R69). -/
theorem sendWire_eq {i : Instr} {op : Byte} {ps : List Byte} (h : encode i = .wire op ps) :
    sendWire i = emitAll (cmd op ps) := by
  funext s
  rw [sendWire, wireEvents_eq h]

theorem sendWire_follows {i : Instr} {op : Byte} {ps : List Byte} (h : encode i = .wire op ps) :
    (sendWire i s).Follows s (cmd op ps) := by
  rw [sendWire_eq h]
  exact emitAll_follows _ s

/-- A whole region, read, is its contents (R41). -/
theorem memRead_all (buf : List Byte) : memRead buf 0 buf.length = buf := by simp [memRead]

/-- SEND_COMMAND's events: absent and empty data send no data phase (R110, R111). -/
theorem sendCmd_follows (op : Byte) (data : Option (List Byte)) (s : State) :
    (sendCmd op (data.map fun d => memRead d 0 d.length) s).Follows s (cmd op (data.getD [])) := by
  have hevents : cmdEvents op (data.map fun d => memRead d 0 d.length) = cmd op (data.getD []) := by
    cases data with
    | none => exact cmdEvents_none op
    | some d => rw [Option.map_some, memRead_all, cmdEvents_eq_cmd, Option.getD_some]
  exact hevents ▸ emitAll_follows _ s

theorem setUp_follows {k : State → Run} (hk : (k s).Follows s es) : (setUp k s).Follows s es := by
  by_cases hm : s.mode = .uninitialized
  · rw [setUp_uninitialized k hm]
    exact ended_follows nofun
  · rwa [setUp_set k hm]

theorem checkFields_follows {cs : List FieldCheck} {k : State → Run}
    (hk : (cs.all fun c => c.legal) = true → (k s).Follows s es) : (checkFields cs k s).Follows s es := by
  obtain ⟨hlegal, h⟩ | ⟨pre, c, post, -, -, -, h⟩ := checkFields_cases cs k s <;> rw [h]
  · exact hk hlegal
  · exact ended_follows nofun

theorem readCspace_follows {k : ColorSpace → State → Run} (hk : ∀ c, (k c s).Follows s es) :
    (readCspace k s).Follows s es := by
  cases h : s.cspace with
  | noValue => simpa [readCspace, h] using Run.Follows.fault _
  | value c => rw [readCspace_value k h]; exact hk c

/-- The duty applied is the one DUTY holds (R101, R102). -/
theorem applyDuty_follows {d : U16} (hd : ∀ d', s.duty = .value d' → d' = d) :
    (applyDuty s).Follows s [.pwmDuty d] := by
  cases h : s.duty with
  | noValue => simpa [applyDuty, readDuty, h] using Run.Follows.fault _
  | value d' =>
    rw [applyDuty_value h, hd d' h]
    exact emit_follows _ s

theorem setWindow_follows (xs xe ys ye : Int) (s : State) :
    (setWindow xs xe ys ye s).Follows s (windowEvents xs xe ys ye) := by
  obtain ⟨-, h⟩ | ⟨-, -, h⟩ | ⟨hx, hy, h⟩ := setWindow_cases xs xe ys ye s <;> rw [h]
  · exact ended_follows nofun
  · exact ended_follows nofun
  · rw [window_wireEvents hx hy]
    exact emitAll_follows _ s

/-! ### From the issue to the end -/

theorem execInit_follows (cfg : Cfg) (hs : s.hung = none) :
    ∃ r : Run, execInit cfg s = r.finish ∧ r.Follows s.start (initEvents cfg) := by
  refine ⟨_, serve_free _ hs, checkFields_follows fun hlegal => .thenSetMode .awake ?_⟩
  have hsequence : (emitAll (bringUpEvents cfg) (s.start.setMode .uninitialized)).Follows s.start
      (resetPulse ++ (bringUp cfg).flatMap fun p => cmd p.1 p.2) := by
    rw [← bringUpEvents_eq hlegal]
    exact (emitAll_follows _ _).of_withRegisters (g := { s.start.registers with mode := .uninitialized })
  refine hsequence.andThen fun u _ => ?_
  have hduty : (applyDuty ((u.setCspace .rgb565).setDuty Config.d0)).Follows _ [.pwmDuty Config.d0] :=
    applyDuty_follows fun d' hd' => (Held.value.inj hd').symm
  exact hduty.of_withRegisters (g := { u.registers with cspace := .value .rgb565, duty := .value Config.d0 })

theorem execWake_follows {d : U16} (hd : ∀ d', s.duty = .value d' → d' = d) (hs : s.hung = none) :
    ∃ r : Run, execWake s = r.finish ∧ r.Follows s.start (wakeEvents d) := by
  refine ⟨_, serve_free _ hs, setUp_follows (.thenSetMode .awake (.andThen (es := cmd 0x11 [] ++ cmd 0x29 []) ?_ ?_))⟩
  · exact (sendWire_follows rfl).andThen fun u _ => sendWire_follows rfl
  · intro u hu
    have hkept : u = s.start.performed (wireEvents .slpout ++ wireEvents .dispon) :=
      emitAll_eq_going ((emitAll_append _ _ _).trans hu)
    exact applyDuty_follows fun d' hd' => hd d' (by simpa [hkept] using hd')

theorem execDim_follows {d : U16} (b : Option (BitVec 64)) (hd : ∀ d', s.duty = .value d' → d' = d)
    (hs : s.hung = none) :
    ∃ r : Run, execDim b s = r.finish ∧ r.Follows s.start (sequenceOf (.dim b) d) := by
  refine ⟨_, serve_free _ hs, setUp_follows ?_⟩
  cases b with
  | none => exact applyDuty_follows hd
  | some v =>
    dsimp only
    split
    · have hduty : (applyDuty (s.start.setDuty (dutyOf v))).Follows _ [.pwmDuty (dutyOf v)] :=
        applyDuty_follows fun d' hd' => (Held.value.inj hd').symm
      exact hduty.of_withRegisters (g := { s.registers with duty := .value (dutyOf v) })
    · exact ended_follows nofun

/-- Every instruction issued is a request that follows its sequence, whatever the transport answers; `d` is what DUTY
holds, where it holds a value. -/
theorem exec_follows {d : U16} (i : Instr) (hd : ∀ d', s.duty = .value d' → d' = d) (hs : s.hung = none) :
    ∃ r : Run, exec i s = r.finish ∧ r.Follows s.start (sequenceOf i d) := by
  cases i with
  | init cfg => exact execInit_follows cfg hs
  | makeFrameBuffer =>
    exact ⟨_, serve_free _ hs, setUp_follows (readCspace_follows fun _ => ended_follows nofun)⟩
  | showFrame buf =>
    refine ⟨_, serve_free _ hs, setUp_follows ((setWindow_follows _ _ _ _ _).andThen fun u _ => ?_)⟩
    rw [memRead_all]
    exact sendWire_follows rfl
  | sleep =>
    refine ⟨_, serve_free _ hs, setUp_follows (.thenSetMode .asleep ?_)⟩
    exact ((emit_follows _ _).andThen fun u _ => sendWire_follows rfl).andThen fun u _ => sendWire_follows rfl
  | wake => exact execWake_follows hd hs
  | dim b => exact execDim_follows b hd hs
  | sendCommand opcode data =>
    refine ⟨_, serve_free _ hs, setUp_follows ?_⟩
    split
    · exact sendCmd_follows _ data _
    · exact ended_follows nofun
  | setWindow xs xe ys ye => exact ⟨_, serve_free _ hs, setUp_follows (setWindow_follows xs xe ys ye _)⟩
  | colorSpace => exact ⟨_, serve_free _ hs, setUp_follows (readCspace_follows fun _ => ended_follows nofun)⟩
  | packColor r g b => exact ⟨_, serve_free _ hs, checkFields_follows fun _ => ended_follows nofun⟩
  | packRgb565 r g b => exact ⟨_, serve_free _ hs, checkFields_follows fun _ => ended_follows nofun⟩
  | reservedB => exact ⟨_, serve_free _ hs, ended_follows nofun⟩
  | reservedCToF lo => exact ⟨_, serve_free _ hs, ended_follows nofun⟩
  | reservedRsv rsv op => exact ⟨_, serve_free _ hs, ended_follows nofun⟩
  | _ => exact ⟨_, serve_free _ hs, sendWire_follows rfl⟩

end Requests

/-- Everything the execution of an instruction can leave: the request ended without a TransportError after the calls
`done`, each completed; or after them a call failed; or one never returned. -/
theorem exec_next_calls {i : Instr} {s t : State} {d : U16} (hd : ∀ d', s.duty = .value d' → d' = d)
    (hs : s.hung = none) (ht : exec i s = .next t) :
    ∃ (done : List Event) (g : Registers),
      (∃ o, done <+: sequenceOf i d ∧ (∀ e, o ≠ .transportError e) ∧
        t = ((s.start.performed done).withRegisters g).close o) ∨
      (∃ e n, done ++ [e] <+: sequenceOf i d ∧
        t = (((s.start.performed done).failed e n).withRegisters g).close (.transportError e)) ∨
      (∃ e n, done ++ [e] <+: sequenceOf i d ∧
        t = { ((s.start.performed done).stall e n).withRegisters g with hung := some e }) := by
  obtain ⟨r, hr, hfollows⟩ := exec_follows i hd hs
  rw [hr] at ht
  cases hfollows with
  | going g => cases ht; exact ⟨_, g, .inl ⟨.ok .none, List.prefix_rfl, nofun, rfl⟩⟩
  | ended g hdone ho => cases ht; exact ⟨_, g, .inl ⟨_, hdone, ho, rfl⟩⟩
  | failed n g hdone => cases ht; exact ⟨_, g, .inr (.inl ⟨_, n, hdone, rfl⟩)⟩
  | stuck n g hdone => cases ht; exact ⟨_, g, .inr (.inr ⟨_, n, hdone, rfl⟩)⟩
  | fault f => cases ht

/-- What DUTY holds, where it holds a value. -/
theorem exists_duty (s : State) : ∃ d : U16, ∀ d', s.duty = .value d' → d' = d := by
  cases s.duty with
  | noValue => exact ⟨0, nofun⟩
  | value d => exact ⟨d, fun d' h => (Held.value.inj h).symm⟩

/-- Settles O21, whichever way the request stopped; a call that never returned leaves no entry. -/
theorem callsFollowTheSequence : Obligations.CallsFollowTheSequence := by
  intro i s t d hd hs ht
  obtain ⟨done, g, ⟨o, hdone, -, rfl⟩ | ⟨e, n, hdone, rfl⟩ | ⟨e, n, hdone, rfl⟩⟩ := exec_next_calls hd hs ht
  · exact ⟨done, .inl ⟨hdone, by simp⟩⟩
  · exact ⟨done, .inr ⟨e, hdone, by simp⟩⟩
  · exact ⟨done, .inl ⟨(List.prefix_append done [e]).trans hdone, by simp⟩⟩

/-- Settles O25: the bytes of the completed calls arrived, and a first part of those of the call the request stopped
at. -/
theorem busBytesAreWhatTheCallsDelivered : Obligations.BusBytesAreWhatTheCallsDelivered := by
  intro i s t hs ht
  obtain ⟨d, hd⟩ := exists_duty s
  obtain ⟨done, g, ⟨o, -, -, rfl⟩ | ⟨e, n, -, rfl⟩ | ⟨e, n, -, rfl⟩⟩ := exec_next_calls hd hs ht
  · exact ⟨done, .inl (by simp [hs])⟩
  · exact ⟨done, .inr (.inl ⟨e, n, by simp [hs]⟩)⟩
  · exact ⟨done, .inr (.inr ⟨e, n, by simp⟩)⟩

/-- Settles O18: a failed call ends its request with another outcome, and a hang adds none. -/
theorem okMeansEveryCallCompleted : Obligations.OkMeansEveryCallCompleted := by
  intro i s t v hs ht hout
  obtain ⟨d, hd⟩ := exists_duty s
  obtain ⟨done, g, ⟨o, -, -, rfl⟩ | ⟨e, n, -, rfl⟩ | ⟨e, n, -, rfl⟩⟩ := exec_next_calls hd hs ht
  · exact ⟨done, by simp⟩
  · simp at hout
  · simp at hout

end Sys2Proof.Machine
end

section
/-! SHOW, as one sequence of calls, and O46: any part of a failed bus write may have arrived (R48, R93). -/

namespace Sys2Proof.Machine

open Sys2Proof.Safety

variable {s : State}

/-- After its setup check SHOW is its sequence of calls and nothing else (R92, R93). -/
theorem execShowFrame_eq (buf : List Byte) (hmode : s.mode ≠ .uninitialized) (hs : s.hung = none) :
    exec (.showFrame buf) s = (emitAll (showEvents buf) s.start).finish := by
  have hwindow : fullPanelWindow s.start = emitAll (windowEvents 0 239 0 239) s.start := by
    rw [← window_wireEvents rfl rfl, emitAll_append]
    rfl
  have hcalls : emitAll (showEvents buf) s.start =
      (fullPanelWindow s.start).andThen (sendWire (.ramwr (memRead buf 0 buf.length))) := by
    rw [memRead_all, sendWire_eq (op := 0x2C) rfl, hwindow, showEvents, emitAll_append]
  rw [hcalls]
  exact (serve_free _ hs).trans (congrArg Run.finish (setUp_set _ hmode))

/-- SHOW's calls before those of its pixel write. -/
def beforePixels : List Event := windowEvents 0 239 0 239 ++ cmd 0x2C [] ++ [.setCS .high, .setDC .high, .setCS .low]

theorem showEvents_eq {buf : List Byte} (h : buf ≠ []) :
    showEvents buf = beforePixels ++ .spiWrite buf :: [.setCS .high] := by
  simp [showEvents, beforePixels, cmd, h]

theorem performed_beforePixels (s : State) : s.performed beforePixels = { s with
    cs := .driven .low, dc := .driven .high
    trace := s.trace ++ beforePixels.map .ok
    onBus := s.onBus ++ [0x2A, 0x00, 0x00, 0x00, 0xEF, 0x2B, 0x00, 0x00, 0x00, 0xEF, 0x2C]
    seq := s.seq + 28, answers := s.answers.drop 28 } := State.performed_eq s rfl

/-- SHOW where its pixel write, the first call after those of `beforePixels`, fails. -/
theorem execShowFrame_pixelWriteFails {buf : List Byte} {n : Nat} {rest : List Answer} (hbuf : buf ≠ [])
    (hmode : s.mode ≠ .uninitialized) (hs : s.hung = none)
    (h : s.answers = List.replicate 28 .completes ++ .fails n :: rest) :
    exec (.showFrame buf) s =
      .next (((s.start.performed beforePixels).failed (.spiWrite buf) n).close (.transportError (.spiWrite buf))) := by
  have hanswers : s.start.answers = List.replicate beforePixels.length .completes ++ .fails n :: rest := h
  rw [execShowFrame_eq buf hmode hs, showEvents_eq hbuf, emitAll_fails _ _ hanswers, Run.finish_ended]

/-- Settles O46: the bytes that arrive are those the transport's answer counts, for one call by itself and for SHOW's
pixel write. -/
theorem anyPrefixOfAFailedWriteMayArrive : Obligations.AnyPrefixOfAFailedWriteMayArrive := by
  refine ⟨fun bs n s rest h => ?_, fun buf n s rest hbuf hmode hs h => ?_⟩
  · rw [emit_fails _ h, State.failed_spiWrite, h, List.tail_cons]
  · have hrest : (s.answers.drop 28).tail = rest := by rw [h]; rfl
    have hbefore : (showEvents buf).take 28 = beforePixels := by rw [showEvents_eq hbuf]; rfl
    rw [execShowFrame_pixelWriteFails hbuf hmode hs h, State.failed_spiWrite, performed_beforePixels, hbefore, ← hrest]
    rfl

end Sys2Proof.Machine
end

section
/-! The fields of a parameter byte and of a request header (R56, R62, R63): placing a field and reading it back. -/

namespace Sys2Proof.Layout

variable {w w' lsb lsb' : Nat}

/-- The bits of a placed field (R62). -/
theorem getLsbD_place (f : BitVec w) (j : Nat) :
    (place lsb f).getLsbD j = (decide (j < 8) && (decide (lsb ≤ j) && f.getLsbD (j - lsb))) := by
  by_cases h : lsb ≤ j <;> by_cases hj : j < 8 <;> simp [place, h, hj]

theorem getLsbD_field (b : Byte) (j : Nat) : (field lsb w b).getLsbD j = (decide (j < w) && b.getLsbD (lsb + j)) :=
  BitVec.getLsbD_extractLsb' lsb w b j

@[simp] theorem field_or (a b : Byte) : field lsb w (a ||| b) = field lsb w a ||| field lsb w b :=
  BitVec.extractLsb'_or

/-- A field that lies in its byte is read back. -/
@[simp] theorem field_place (f : BitVec w) (h : lsb + w ≤ 8) : field lsb w (place lsb f) = f := by
  apply BitVec.eq_of_getLsbD_eq
  intro j hj
  have hj8 : lsb + j < 8 := by omega
  rw [getLsbD_field, getLsbD_place]
  simp [hj, hj8]

/-- A field that lies elsewhere in the byte adds nothing. -/
@[simp] theorem field_place_of_disjoint (f : BitVec w') (h : lsb + w ≤ lsb' ∨ lsb' + w' ≤ lsb) :
    field lsb w (place lsb' f) = 0 := by
  apply BitVec.eq_of_getLsbD_eq
  intro j hj
  rw [getLsbD_field, getLsbD_place]
  obtain h | h := h
  · have hbelow : ¬ lsb' ≤ lsb + j := by omega
    simp [hbelow]
  · have habove : w' ≤ lsb + j - lsb' := by omega
    simp [BitVec.getLsbD_of_ge f _ habove]

/-- The bits a field can occupy are those of the field of all ones. -/
theorem place_and_eq_zero {m : Byte} (f : BitVec w) (h : place lsb (BitVec.allOnes w) &&& m = 0) :
    place lsb f &&& m = 0 := by
  apply BitVec.eq_of_getLsbD_eq
  intro j hj
  have hbit := congrArg (BitVec.getLsbD · j) h
  simp only [BitVec.getLsbD_and, getLsbD_place, BitVec.getLsbD_allOnes] at hbit ⊢
  by_cases hw : j - lsb < w
  · simp_all
  · simp [BitVec.getLsbD_of_ge f _ (Nat.le_of_not_lt hw)]

/-- A field read is the byte's bits under the field of all ones. -/
theorem place_field (b : Byte) : place lsb (field lsb w b) = b &&& place lsb (BitVec.allOnes w) := by
  apply BitVec.eq_of_getLsbD_eq
  intro j hj
  rw [getLsbD_place, getLsbD_field, BitVec.getLsbD_and, getLsbD_place, BitVec.getLsbD_allOnes]
  by_cases h : lsb ≤ j <;> simp [hj, h, Bool.and_comm]

/-- A byte whose reserved bits are 0 is its other bits (R61). -/
theorem and_eq_self {b m r : Byte} (h : b &&& r = 0) (hm : m ||| r = BitVec.allOnes 8) : b &&& m = b := by
  have hsplit : b &&& (m ||| r) = b &&& m ||| b &&& r := BitVec.and_or_distrib_left
  simpa [hm, h, -BitVec.reduceAllOnes] using hsplit.symm

/-! ### Coordinates (R63) -/

@[simp] theorem coord_hi8_lo8 (v : U16) : coord (hi8 v) (lo8 v) = v := BitVec.extractLsb'_append_extractLsb'

@[simp] theorem hi8_coord (hi lo : Byte) : hi8 (coord hi lo) = hi := BitVec.extractLsb'_append_eq_left

@[simp] theorem lo8_coord (hi lo : Byte) : lo8 (coord hi lo) = lo := BitVec.extractLsb'_append_eq_right

end Sys2Proof.Layout
end

section
/-! Decoding and encoding: what each parser of Decode.lean takes, and from that O2 and O3. -/

namespace Sys2Proof

open Layout

variable {op : Byte} {ps : List Byte} {i j : Instr}

/-! ### What each parser takes (R60, R61, R63, R64) -/

theorem checked_eq_ok {c : Prop} [Decidable c] {e : DecodeError} :
    (if c then .ok j else .error e) = Except.ok i ↔ c ∧ j = i := by
  by_cases h : c <;> simp [h]

theorem noParams_eq_ok : noParams op ps j = .ok i ↔ ps = [] ∧ j = i := by
  cases ps <;> simp [noParams]

theorem oneParam_eq_ok {reserved : Byte} {k : Byte → Instr} :
    oneParam op ps reserved k = .ok i ↔ ∃ b, ps = [b] ∧ b &&& reserved = 0 ∧ k b = i := by
  unfold oneParam
  split
  · simp [checked_eq_ok]
  · next hps => exact ⟨nofun, fun ⟨_, h, _⟩ => (hps _ h).elim⟩

theorem coordParams_eq_ok {k : U16 → U16 → Instr} :
    coordParams op ps k = .ok i ↔ ∃ s e, ps = [hi8 s, lo8 s, hi8 e, lo8 e] ∧ k s e = i := by
  constructor
  · intro h
    unfold coordParams at h
    split at h
    · next sh sl eh el => exact ⟨coord sh sl, coord eh el, by simp, Except.ok.inj h⟩
    · cases h
  · rintro ⟨s, e, rfl, rfl⟩
    simp [coordParams]

theorem gammaParams_eq_ok {k : Curve Byte → Instr} :
    gammaParams op ps k = .ok i ↔ ∃ c, ps = c.toList ∧ gammaWithin c = true ∧ k c = i := by
  constructor
  · intro h
    unfold gammaParams at h
    split at h
    · exact ⟨⟨_, _, _, _, _, _, _, _, _, _, _, _, _, _⟩, rfl, checked_eq_ok.mp h⟩
    · cases h
  · rintro ⟨c, rfl, hc, rfl⟩
    exact if_pos hc

theorem porchParams_eq_ok : porchParams op ps = .ok i ↔ ∃ b1 b2 b3 b4 b5, ps = [b1, b2, b3, b4, b5] ∧
    (b1 &&& 0x80 = 0 ∧ b2 &&& 0x80 = 0 ∧ b3 &&& 0xFE = 0) ∧
    .porctrl (field 0 7 b1) (field 0 7 b2) (field 0 1 b3) (field 4 4 b4) (field 0 4 b4) (field 4 4 b5)
      (field 0 4 b5) = i := by
  unfold porchParams
  split
  · rw [checked_eq_ok]
    constructor
    · exact fun h => ⟨_, _, _, _, _, rfl, h⟩
    · rintro ⟨_, _, _, _, _, hps, h⟩
      cases hps
      exact h
  · next hps => exact ⟨nofun, fun ⟨_, _, _, _, _, h, _⟩ => (hps _ _ _ _ _ h).elim⟩

theorem vdvvrhenParams_eq_ok : vdvvrhenParams op ps = .ok i ↔
    ∃ b trailer, ps = b :: vdvvrhenTrailer trailer ∧ b &&& 0xFE = 0 ∧ .vdvvrhen (field 0 1 b) trailer = i := by
  constructor
  · intro h
    unfold vdvvrhenParams at h
    split at h
    · next b => exact ⟨b, false, rfl, checked_eq_ok.mp h⟩
    · next b t =>
      by_cases ht : t = vdvvrhenFixed
      · exact ⟨b, true, by rw [ht]; rfl, checked_eq_ok.mp (by simpa [ht] using h)⟩
      · simp [ht] at h
    · cases h
  · rintro ⟨b, trailer, rfl, hb, rfl⟩
    cases trailer with
    | false => exact if_pos hb
    | true => exact if_pos hb

theorem pwctrl1Params_eq_ok : pwctrl1Params op ps = .ok i ↔
    ∃ b, ps = [pwctrl1Fixed, b] ∧ b &&& 0x0C = 0 ∧ .pwctrl1 (field 6 2 b) (field 4 2 b) (field 0 2 b) = i := by
  unfold pwctrl1Params
  split
  · next b1 b2 => by_cases h : b1 = pwctrl1Fixed <;> simp [h, checked_eq_ok]
  · next hps => exact ⟨nofun, fun ⟨_, h, _⟩ => (hps _ _ h).elim⟩

/-! ### The header of a host request (R56, R65) -/

/-- A header whose RSV is zero is its OP. -/
theorem header_eq {h : Byte} {n : Nat} (hrsv : headerRsv h = 0) (hop : (headerOp h).toNat = n) :
    h = BitVec.ofNat 8 n := by
  have happend : headerRsv h ++ headerOp h = h := BitVec.extractLsb'_append_extractLsb' (w := 4)
  have hn : n % 256 = n := Nat.mod_eq_of_lt (hop ▸ Nat.lt_of_lt_of_le (headerOp h).isLt (by decide))
  apply BitVec.eq_of_toNat_eq
  rw [← happend, hrsv, BitVec.toNat_append, hop]
  simp [hn]

/-- A header whose RSV is not zero is a reserved request, whatever its operands. -/
theorem decodeRequest_of_rsv {h : Byte} (ops : List Operand) (hrsv : headerRsv h ≠ 0) :
    decodeRequest h ops = .ok (.reservedRsv (headerRsv h) (headerOp h)) := if_pos (by simpa using hrsv)

theorem decode_encode_reservedRsv {rsv opc : BitVec 4} (h : rsv ≠ 0) :
    decode (encode (.reservedRsv rsv opc)) = .ok (.reservedRsv rsv opc) := by
  have hrsv : headerRsv (place 4 rsv ||| place 0 opc) = rsv := (field_or ..).trans (by simp)
  have hop : headerOp (place 4 rsv ||| place 0 opc) = opc := (field_or ..).trans (by simp)
  have hdecode := decodeRequest_of_rsv [] (hrsv.symm ▸ h)
  rwa [hrsv, hop] at hdecode

theorem decode_encode_reservedCToF (lo : BitVec 2) :
    decode (encode (.reservedCToF lo)) = .ok (.reservedCToF lo) := by
  have hlo : lo = 0 ∨ lo = 1 ∨ lo = 2 ∨ lo = 3 := by revert lo; decide
  obtain rfl | rfl | rfl | rfl := hlo <;> rfl

/-! ### Both directions -/

/-- Settles O2, a case for each instruction: its header or opcode selects its parser (R57, R60), the bits reserved
there are 0 (R61), and each field is read back where it was placed (R62, R63). -/
theorem decodeOfEncodeIsTheInstruction : Obligations.DecodeOfEncodeIsTheInstruction := by
  intro i hwf
  cases i with
  | dim b => cases b <;> rfl
  | sendCommand opcode data => cases data <;> rfl
  | reservedCToF lo => exact decode_encode_reservedCToF lo
  | reservedRsv rsv opc => exact decode_encode_reservedRsv (by simpa [Instr.wf] using hwf)
  | caset xs xe => exact (coordParams_eq_ok (op := opCaset)).mpr ⟨xs, xe, rfl, rfl⟩
  | raset ys ye => exact (coordParams_eq_ok (op := opRaset)).mpr ⟨ys, ye, rfl, rfl⟩
  | pvgamctrl c => exact gammaParams_eq_ok.mpr ⟨c, rfl, hwf, rfl⟩
  | nvgamctrl c => exact gammaParams_eq_ok.mpr ⟨c, rfl, hwf, rfl⟩
  | porctrl =>
    refine porchParams_eq_ok.mpr ⟨_, _, _, _, _, rfl, ?_, by simp⟩
    exact ⟨place_and_eq_zero _ rfl, place_and_eq_zero _ rfl, place_and_eq_zero _ rfl⟩
  | vdvvrhen cmden trailer => exact vdvvrhenParams_eq_ok.mpr ⟨_, trailer, rfl, place_and_eq_zero _ rfl, by simp⟩
  | madctl | colmod | gctrl | vcoms | lcmctrl | vrhs | vdvs | frctrl2 =>
    simp +decide only [decode, encode, decodeWire, ↓reduceIte]
    refine oneParam_eq_ok.mpr ⟨_, rfl, ?_, by simp⟩
    simp (disch := decide) [BitVec.and_or_distrib_right, place_and_eq_zero]
  | pwctrl1 =>
    refine pwctrl1Params_eq_ok.mpr ⟨_, rfl, ?_, by simp⟩
    simp (disch := decide) [BitVec.and_or_distrib_right, place_and_eq_zero]
  | _ => rfl

/-- The instruction is well-formed, and this is its encoding. -/
abbrev SpelledBy (it : Item) (i : Instr) : Prop := i.wf = true ∧ encode i = it

section WireCommands

variable {o : Byte}

theorem noParams_spelledBy (hj : SpelledBy (.wire o []) j) (h : noParams op ps j = .ok i) :
    SpelledBy (.wire o ps) i := by
  obtain ⟨rfl, rfl⟩ := noParams_eq_ok.mp h
  exact hj

/-- The bits of the fields are all that is not reserved, so the fields, placed again, are the byte (R61, R62). -/
theorem oneParam_spelledBy {reserved : Byte} {k : Byte → Instr}
    (hk : ∀ b, b &&& reserved = 0 → SpelledBy (.wire o [b]) (k b) := by
      refine fun b hb => ⟨rfl, ?_⟩
      simp (disch := decide) [encode, place_field, ← BitVec.and_or_distrib_left, and_eq_self hb])
    (h : oneParam op ps reserved k = .ok i) : SpelledBy (.wire o ps) i := by
  obtain ⟨b, rfl, hb, rfl⟩ := oneParam_eq_ok.mp h
  exact hk b hb

theorem coordParams_spelledBy {k : U16 → U16 → Instr}
    (hk : ∀ s e, SpelledBy (.wire o [hi8 s, lo8 s, hi8 e, lo8 e]) (k s e)) (h : coordParams op ps k = .ok i) :
    SpelledBy (.wire o ps) i := by
  obtain ⟨s, e, rfl, rfl⟩ := coordParams_eq_ok.mp h
  exact hk s e

theorem gammaParams_spelledBy {k : Curve Byte → Instr}
    (hk : ∀ c, gammaWithin c = true → SpelledBy (.wire o c.toList) (k c)) (h : gammaParams op ps k = .ok i) :
    SpelledBy (.wire o ps) i := by
  obtain ⟨c, rfl, hc, rfl⟩ := gammaParams_eq_ok.mp h
  exact hk c hc

theorem porchParams_spelledBy (h : porchParams op ps = .ok i) : SpelledBy (.wire opPorctrl ps) i := by
  obtain ⟨b1, b2, b3, b4, b5, rfl, ⟨h1, h2, h3⟩, rfl⟩ := porchParams_eq_ok.mp h
  have hwhole (b : Byte) : b &&& 0 = 0 := BitVec.and_zero
  refine ⟨rfl, ?_⟩
  simp (disch := decide) [encode, place_field, ← BitVec.and_or_distrib_left, and_eq_self h1, and_eq_self h2,
    and_eq_self h3, and_eq_self (hwhole _)]

theorem vdvvrhenParams_spelledBy (h : vdvvrhenParams op ps = .ok i) : SpelledBy (.wire opVdvvrhen ps) i := by
  obtain ⟨b, trailer, rfl, hb, rfl⟩ := vdvvrhenParams_eq_ok.mp h
  refine ⟨rfl, ?_⟩
  simp (disch := decide) [encode, place_field, and_eq_self hb]

theorem pwctrl1Params_spelledBy (h : pwctrl1Params op ps = .ok i) : SpelledBy (.wire opPwctrl1 ps) i := by
  obtain ⟨b, rfl, hb, rfl⟩ := pwctrl1Params_eq_ok.mp h
  refine ⟨rfl, ?_⟩
  simp (disch := decide) [encode, place_field, ← BitVec.and_or_distrib_left, and_eq_self hb]

/-- One opcode of the decoder's choice: what its parser takes, or what the choice goes on to. -/
theorem opcode_spelledBy {p q : Except DecodeError Instr} (hp : p = .ok i → SpelledBy (.wire o ps) i)
    (hq : q = .ok i → SpelledBy (.wire op ps) i) (h : (if op = o then p else q) = .ok i) :
    SpelledBy (.wire op ps) i := by
  split at h
  · next hop => exact hop ▸ hp h
  · exact hq h

theorem decodeWire_spelledBy : decodeWire op ps = .ok i → SpelledBy (.wire op ps) i :=
  opcode_spelledBy (o := opSlpin) (noParams_spelledBy ⟨rfl, rfl⟩) <|
  opcode_spelledBy (o := opSlpout) (noParams_spelledBy ⟨rfl, rfl⟩) <|
  opcode_spelledBy (o := opInvon) (noParams_spelledBy ⟨rfl, rfl⟩) <|
  opcode_spelledBy (o := opDispoff) (noParams_spelledBy ⟨rfl, rfl⟩) <|
  opcode_spelledBy (o := opDispon) (noParams_spelledBy ⟨rfl, rfl⟩) <|
  opcode_spelledBy (o := opCaset) (coordParams_spelledBy fun _ _ => ⟨rfl, rfl⟩) <|
  opcode_spelledBy (o := opRaset) (coordParams_spelledBy fun _ _ => ⟨rfl, rfl⟩) <|
  opcode_spelledBy (o := opRamwr) (fun h => by cases h; exact ⟨rfl, rfl⟩) <|
  opcode_spelledBy (o := opMadctl) oneParam_spelledBy <|
  opcode_spelledBy (o := opColmod) oneParam_spelledBy <|
  opcode_spelledBy (o := opPorctrl) porchParams_spelledBy <|
  opcode_spelledBy (o := opGctrl) oneParam_spelledBy <|
  opcode_spelledBy (o := opVcoms) oneParam_spelledBy <|
  opcode_spelledBy (o := opLcmctrl) oneParam_spelledBy <|
  opcode_spelledBy (o := opVdvvrhen) vdvvrhenParams_spelledBy <|
  opcode_spelledBy (o := opVrhs) oneParam_spelledBy <|
  opcode_spelledBy (o := opVdvs) oneParam_spelledBy <|
  opcode_spelledBy (o := opFrctrl2) oneParam_spelledBy <|
  opcode_spelledBy (o := opPwctrl1) pwctrl1Params_spelledBy <|
  opcode_spelledBy (o := opPvgamctrl) (gammaParams_spelledBy fun _ hc => ⟨hc, rfl⟩) <|
  opcode_spelledBy (o := opNvgamctrl) (gammaParams_spelledBy fun _ hc => ⟨hc, rfl⟩) nofun

end WireCommands

/-- Settles O3, a case for each opcode of R60: what its parser took is what the encoder gives. -/
theorem decodedWireBytesAreTheEncoding : Obligations.DecodedWireBytesAreTheEncoding :=
  fun _ _ _ => decodeWire_spelledBy

end Sys2Proof
end

section
/-! Host requests: what decodes is what the encoder gives, and from that O4; the written words of O1. -/

namespace Sys2Proof

open Layout Safety

variable {i : Instr} {h : Byte} {ops : List Operand}

/-- Where `f` takes no operands but a list that begins with an integer, what it takes is one. -/
theorem exists_int_cons {f : List Operand → Except DecodeError Instr} {e : DecodeError} (hf : f ops = .ok i)
    (hnil : f [] = .error e := by rfl) (hregion : ∀ b as, f (.region b :: as) = .error e := by intros; rfl)
    (hbinary64 : ∀ b as, f (.binary64 b :: as) = .error e := by intros; rfl)
    (habsent : ∀ as, f (.absent :: as) = .error e := by intros; rfl)
    (hrecord : ∀ c as, f (.record c :: as) = .error e := by intros; rfl) : ∃ v as, ops = .int v :: as := by
  cases ops with
  | nil => simp [hnil] at hf
  | cons a as =>
    cases a with
    | int v => exact ⟨v, as, rfl⟩
    | region b => simp [hregion] at hf
    | binary64 b => simp [hbinary64] at hf
    | absent => simp [habsent] at hf
    | record c => simp [hrecord] at hf

/-- A case for each shape of operands of R57: those an OP takes, by number and type, are those the encoder gives. In
the splits below one constructor of `Operand` stands for each of `int`, `region`, `binary64`, `absent`, `record`. -/
theorem decodeRequest_spelledBy {n : Nat} (hn : n < 0xB) (hd : decodeRequest (BitVec.ofNat 8 n) ops = .ok i) :
    SpelledBy (.request (BitVec.ofNat 8 n) ops) i := by
  have hshape : (n = 0 ∨ n = 2) ∨ (n = 1 ∨ n = 3 ∨ n = 4 ∨ n = 8) ∨ n = 5 ∨ n = 6 ∨ n = 7 ∨ (n = 9 ∨ n = 10) := by
    omega
  obtain hone | hnone | rfl | rfl | rfl | hchannels := hshape
  · obtain rfl | rfl := hone
    all_goals
      rcases ops with _ | ⟨_ | _ | _ | _ | _, _ | _⟩ <;> cases hd
      exact ⟨rfl, rfl⟩
  · obtain rfl | rfl | rfl | rfl := hnone
    all_goals
      cases ops <;> cases hd
      exact ⟨rfl, rfl⟩
  · rcases ops with _ | ⟨_ | _ | _ | _ | _, _ | _⟩ <;> cases hd
    · exact ⟨rfl, rfl⟩
    · exact ⟨rfl, rfl⟩
  · obtain ⟨opcode, ops, rfl⟩ := exists_int_cons (f := decodeRequest 6) hd
    rcases ops with _ | ⟨_ | _ | _ | _ | _, _ | _⟩ <;> cases hd
    · exact ⟨rfl, rfl⟩
    · exact ⟨rfl, rfl⟩
  · obtain ⟨xs, ops, rfl⟩ := exists_int_cons (f := decodeRequest 7) hd
    obtain ⟨xe, ops, rfl⟩ := exists_int_cons (f := fun as => decodeRequest 7 (.int xs :: as)) hd
    obtain ⟨ys, ops, rfl⟩ := exists_int_cons (f := fun as => decodeRequest 7 (.int xs :: .int xe :: as)) hd
    obtain ⟨ye, ops, rfl⟩ :=
      exists_int_cons (f := fun as => decodeRequest 7 (.int xs :: .int xe :: .int ys :: as)) hd
    cases ops <;> cases hd
    exact ⟨rfl, rfl⟩
  · obtain rfl | rfl := hchannels
    all_goals
      obtain ⟨r, ops, rfl⟩ := exists_int_cons (f := decodeRequest _) hd
      obtain ⟨g, ops, rfl⟩ := exists_int_cons (f := fun as => decodeRequest _ (.int r :: as)) hd
      obtain ⟨b, ops, rfl⟩ := exists_int_cons (f := fun as => decodeRequest _ (.int r :: .int g :: as)) hd
      cases ops <;> cases hd
      exact ⟨rfl, rfl⟩

theorem isWire_eq_false (he : encode i = .request h ops) : isWire i = false := by simp [isWire, he]

/-- Settles O4: a reserved RSV is read before all else (R177), a header without one is its OP, and a reserved OP takes
any operands. -/
theorem decodedRequestsAreTheEncoding : Obligations.DecodedRequestsAreTheEncoding := by
  intro h ops i hd
  change decodeRequest h ops = .ok i at hd
  by_cases hrsv : headerRsv h = 0
  case neg =>
    obtain rfl := Except.ok.inj ((decodeRequest_of_rsv ops hrsv).symm.trans hd)
    exact ⟨by simpa [Instr.wf] using hrsv, rfl, fun h0 => absurd h0 hrsv⟩
  case pos =>
    obtain ⟨n, hop⟩ : ∃ n, (headerOp h).toNat = n := ⟨_, rfl⟩
    obtain rfl := header_eq hrsv hop
    by_cases hn : n < 0xB
    · obtain ⟨hwf, he⟩ := decodeRequest_spelledBy hn hd
      exact ⟨hwf, isWire_eq_false he, fun _ _ => he⟩
    · have hlt : n < 16 := hop ▸ (headerOp _).isLt
      refine and_assoc.mp ⟨?_, fun _ hlow => absurd (hop ▸ hlow) hn⟩
      clear hrsv hop
      have hreserved : n = 11 ∨ n = 12 ∨ n = 13 ∨ n = 14 ∨ n = 15 := by omega
      obtain rfl | rfl | rfl | rfl | rfl := hreserved <;> cases hd <;> exact ⟨rfl, rfl⟩

/-- Settles O1: each word is evaluated by the decoder. -/
theorem writtenWordsDecode : Obligations.WrittenWordsDecode := ⟨rfl, rfl, rfl, rfl, rfl, rfl, rfl, rfl, rfl⟩

end Sys2Proof
end

section
/-! The rows of R60's table (O7). -/

namespace Sys2Proof

open Safety

/-- The row of R60's table that an item stands in: a wire command's opcode and number of parameter bytes. -/
def Item.wireRow : Item → Option (Byte × Nat)
  | .wire op ps => some (op, ps.length)
  | .request _ _ => none

/-- The table, row by row, is the encoder's. -/
theorem wireRow_eq_encode (i : Instr) : wireRow i = (encode i).wireRow := by
  cases i with
  | dim b => cases b <;> rfl
  | sendCommand opcode data => cases data <;> rfl
  | vdvvrhen cmden trailer => cases trailer <;> rfl
  | _ => rfl

/-- Settles O7: an item of a row is a wire command of its opcode and length, an item of none is a host request. -/
theorem wireCommandsHaveTheTablesLengths : Obligations.WireCommandsHaveTheTablesLengths := by
  refine ⟨fun i op n h => ?_, fun i h => ?_⟩ <;> rw [wireRow_eq_encode] at h <;> cases he : encode i with
  | wire op' ps => simp_all [Item.wireRow]
  | request hd ops => simp_all [Item.wireRow]

end Sys2Proof
end

section
/-! What is legal of a field (O10). -/

namespace Sys2Proof.Machine

theorem withinMask_iff (m c : Nat) :
    Layout.withinMask m c = true ↔ ∀ j, c.testBit j = true → m.testBit j = true := by
  rw [Layout.withinMask, beq_iff_eq]
  constructor
  · intro h j hj
    rw [← h, Nat.testBit_and, Bool.and_eq_true] at hj
    exact hj.2
  · intro h
    apply Nat.eq_of_testBit_eq
    intro j
    cases hc : c.testBit j <;> simp_all [Nat.testBit_and]

/-- Settles O10: the width check is R113's interval, and a mask holds every bit of a coefficient within it (R64). -/
theorem fieldLegality : Obligations.FieldLegality := by
  refine ⟨fun n w v => ?_, fun n k v _ _ => ?_⟩
  · simp [FieldCheck.legal, fitsBits]
  · simp only [FieldCheck.legal, fitsMask, Bool.and_eq_true, decide_eq_true_eq, withinMask_iff]
    exact Iff.rfl

end Sys2Proof.Machine
end

section
/-! The reserved requests (O6). -/

namespace Sys2Proof.Machine

open Sys2Proof.Safety Sys2Proof.Layout

variable {s : State}

theorem serve_refuse (header : Byte) (hs : s.hung = none) :
    serve (refuse header) s = .next (untouched s (.refused header)) := serve_free _ hs

theorem reservedCToF_header (lo : BitVec 2) : (0x0C ||| place 0 lo : Byte) = 0b000011#6 ++ lo := by
  revert lo
  decide

theorem reservedRsv_header (rsv op : BitVec 4) : place 4 rsv ||| place 0 op = rsv ++ op := by
  revert rsv op
  decide

/-- Settles O6: no call and no write comes before the refusal (R65, R175). -/
theorem reservedRequestsEndRefused : Obligations.ReservedRequestsEndRefused := by
  intro s hs
  refine ⟨serve_refuse 0x0B hs, fun lo => ?_, fun rsv op => ?_⟩
  · rw [← reservedCToF_header]
    exact serve_refuse _ hs
  · rw [← reservedRsv_header]
    exact serve_refuse _ hs

end Sys2Proof.Machine
end

section
/-! The bracket of every bus write (R59, R110): the invariant as a condition on each entry, the sequence of every
instruction meets it, and O29 from that. -/

namespace Sys2Proof.Machine

open Sys2Proof.Safety

variable {xs ys : List Entry} {es fs : List Event} {e : Event}

/-! ### The invariant, entry by entry -/

/-- A call of `e` right after the entries `pre` stands in its bracket, if it is a bus write (R59, R194). -/
def InBracket (pre : List Entry) (e : Event) : Prop :=
  ∀ bs, e = .spiWrite bs →
    ∃ before l, pre = before ++ [.ok (.setCS .high), .ok (.setDC l), .ok (.setCS .low)] ∧ bs ≠ [] ∧
      (l = .low → bs.length = 1)

theorem bracketed_iff : Bracketed xs ↔ ∀ pre x post, xs = pre ++ x :: post → InBracket pre x.event :=
  ⟨fun h pre x post hxs bs he => h pre x post bs hxs he, fun h pre x post bs hxs he => h pre x post hxs bs he⟩

theorem bracketed_nil : Bracketed [] := fun pre x post bs h => by simp at h

/-- An entry added to a bracketed trace needs a bracket only for itself. -/
theorem bracketed_concat_iff {x : Entry} : Bracketed (xs ++ [x]) ↔ Bracketed xs ∧ InBracket xs x.event := by
  simp only [bracketed_iff]
  constructor
  · intro h
    exact ⟨fun pre y post hxs => h pre y (post ++ [x]) (by simp [hxs]), h xs x [] rfl⟩
  · intro ⟨hxs, hx⟩ pre y post heq
    obtain rfl | ⟨post', z, rfl⟩ := post.eq_nil_or_concat
    · obtain ⟨rfl, hxy⟩ := List.append_inj' heq rfl
      obtain rfl : x = y := List.singleton_inj.mp hxy
      exact hx
    · have hlast : xs ++ [x] = (pre ++ y :: post') ++ [z] := by simpa using heq
      exact hxs pre y post' (List.append_inj' hlast rfl).1

theorem InBracket.append_left {pre : List Entry} (h : InBracket pre e) (xs : List Entry) :
    InBracket (xs ++ pre) e := by
  intro bs he
  obtain ⟨before, l, rfl, hbs⟩ := h bs he
  exact ⟨xs ++ before, l, by simp, hbs⟩

theorem bracketed_append (hxs : Bracketed xs) (hys : Bracketed ys) : Bracketed (xs ++ ys) := by
  rw [bracketed_iff] at hxs hys ⊢
  intro pre x post heq
  obtain ⟨as, rfl, hys'⟩ | ⟨as, rfl, htail⟩ := List.append_eq_append_iff.mp heq
  · exact (hys as x post hys').append_left xs
  · cases as with
    | nil => simpa only [List.append_nil] using (hys [] x post htail.symm).append_left pre
    | cons a as =>
      obtain ⟨rfl, -⟩ := List.cons.inj htail
      exact hxs pre x as rfl

theorem bracketed_of_append (h : Bracketed (xs ++ ys)) : Bracketed xs := by
  rw [bracketed_iff] at h ⊢
  rintro pre x post rfl
  exact h pre x (post ++ ys) (List.append_assoc pre (x :: post) ys)

/-! ### Sequences of calls -/

/-- These calls, each completed, keep the invariant. -/
abbrev BracketedCalls (es : List Event) : Prop := Bracketed (es.map .ok)

theorem BracketedCalls.append (hes : BracketedCalls es) (hfs : BracketedCalls fs) : BracketedCalls (es ++ fs) := by
  simpa [BracketedCalls] using bracketed_append hes hfs

theorem BracketedCalls.of_prefix (h : BracketedCalls fs) (hes : es <+: fs) : BracketedCalls es := by
  obtain ⟨gs, rfl⟩ := hes
  rw [BracketedCalls, List.map_append] at h
  exact bracketed_of_append h

/-- A call that fails stands in the bracket of one that completes: the invariant speaks of its event (R44(b)). -/
theorem BracketedCalls.last_failed (h : BracketedCalls (es ++ [e])) :
    Bracketed (es.map .ok ++ [.failed e]) := by
  rw [BracketedCalls, List.map_append, List.map_singleton, bracketed_concat_iff] at h
  exact bracketed_concat_iff.mpr h

theorem bracketedCalls_flatMap {α : Type} {f : α → List Event} (h : ∀ a, BracketedCalls (f a)) (l : List α) :
    BracketedCalls (l.flatMap f) := by
  induction l with
  | nil => exact bracketed_nil
  | cons a l ih => exact (h a).append ih

/-- Calls none of which is a bus write. -/
theorem bracketedCalls_of_no_write (h : ∀ e ∈ es, ∀ bs, e ≠ .spiWrite bs) : BracketedCalls es := by
  intro pre x post bs hes hx
  have hmem : x ∈ es.map Entry.ok := by simp [hes]
  obtain ⟨e, he, rfl⟩ := List.mem_map.mp hmem
  exact absurd hx (h e he bs)

/-- One phase is one bracket: its bytes are not empty, and with DC low they are one (R59, R110). -/
theorem bracketedCalls_phase {l : Level} {bs : List Byte} (hbs : bs ≠ []) (hl : l = .low → bs.length = 1) :
    BracketedCalls (phase l bs) := by
  have hbefore : BracketedCalls [.setCS .high, .setDC l, .setCS .low] := bracketedCalls_of_no_write (by simp)
  have hwrite : BracketedCalls ([.setCS .high, .setDC l, .setCS .low] ++ [.spiWrite bs]) := by
    rw [BracketedCalls, List.map_append]
    refine bracketed_concat_iff.mpr ⟨hbefore, fun bs' h => ?_⟩
    obtain rfl : bs = bs' := Event.spiWrite.inj h
    exact ⟨[], l, rfl, hbs, hl⟩
  exact hwrite.append (fs := [.setCS .high]) (bracketedCalls_of_no_write (by simp))

theorem bracketedCalls_cmd (op : Byte) (ps : List Byte) : BracketedCalls (cmd op ps) := by
  have hcommand : BracketedCalls (phase .low [op]) := bracketedCalls_phase (by simp) fun _ => rfl
  refine hcommand.append ?_
  split
  · exact bracketed_nil
  · next hps => exact bracketedCalls_phase hps nofun

theorem bracketedCalls_pwmDuty (d : U16) : BracketedCalls [.pwmDuty d] := bracketedCalls_of_no_write (by simp)

theorem bracketedCalls_windowEvents (xs xe ys ye : Int) : BracketedCalls (windowEvents xs xe ys ye) :=
  (bracketedCalls_cmd _ _).append (bracketedCalls_cmd _ _)

theorem bracketedCalls_initEvents (c : Cfg) : BracketedCalls (initEvents c) := by
  have hreset : BracketedCalls [.setRST .low, .setRST .high] := bracketedCalls_of_no_write (by simp)
  have hcommands := bracketedCalls_flatMap (fun p : Byte × List Byte => bracketedCalls_cmd p.1 p.2) (bringUp c)
  exact (hreset.append hcommands).append (bracketedCalls_pwmDuty _)

/-- The sequence of every instruction is made of wire commands, duties and INIT's reset pulse. -/
theorem bracketedCalls_sequenceOf (i : Instr) (d : U16) : BracketedCalls (sequenceOf i d) := by
  cases i with
  | init cfg => exact bracketedCalls_initEvents cfg
  | showFrame buf => exact (bracketedCalls_windowEvents _ _ _ _).append (bracketedCalls_cmd _ _)
  | sleep => exact ((bracketedCalls_pwmDuty 0).append (bracketedCalls_cmd _ _)).append (bracketedCalls_cmd _ _)
  | wake => exact ((bracketedCalls_cmd _ _).append (bracketedCalls_cmd _ _)).append (bracketedCalls_pwmDuty d)
  | dim b =>
    cases b with
    | none => exact bracketedCalls_pwmDuty d
    | some v => exact bracketedCalls_pwmDuty _
  | sendCommand opcode data => exact bracketedCalls_cmd _ _
  | setWindow xs xe ys ye => exact bracketedCalls_windowEvents xs xe ys ye
  | makeFrameBuffer | colorSpace | packColor | packRgb565 | reservedB | reservedCToF | reservedRsv =>
    exact bracketed_nil
  | _ => exact bracketedCalls_cmd _ _

/-- Settles O29: by O21 an instruction adds to TRACE a first part of its sequence, of which the last call may have
failed. -/
theorem stepKeepsBusWritesBracketed : Obligations.StepKeepsBusWritesBracketed := by
  intro s t hb ht
  refine step_keeps (P := fun u => Bracketed u.trace) (fun i hs hi => ?_) hb ht
  obtain ⟨d, hd⟩ := exists_duty s
  have hsequence := bracketedCalls_sequenceOf i d
  obtain ⟨done, ⟨hdone, htrace⟩ | ⟨e, hdone, htrace⟩⟩ := callsFollowTheSequence i s t d hd hs hi
  · rw [htrace]
    exact bracketed_append hb (hsequence.of_prefix hdone)
  · rw [htrace, List.append_assoc]
    exact bracketed_append hb (hsequence.of_prefix hdone).last_failed

end Sys2Proof.Machine
end

section
/-! Wire commands and bus requests whose calls all complete: O60, and from the sequences of SHOW, SET_WINDOW and
SEND_COMMAND O47. -/

namespace Sys2Proof.Machine

open Sys2Proof.Safety

variable {s : State} {rest : List Answer}

/-! ### A request whose calls all complete (R44(a)) -/

/-- What a request that makes the calls `es`, each completed, leaves when it falls off its end (R17). -/
def State.ranThrough (es : List Event) (s : State) : State := (s.start.performed es).close (.ok .none)

theorem emitAll_finish_completes {es : List Event} (h : s.answers = List.replicate es.length .completes ++ rest) :
    (emitAll es s.start).finish = .next (s.ranThrough es) := by
  rw [emitAll_completes (s := s.start) es rest h]
  rfl

@[simp] theorem ranThrough_mode (es : List Event) (s : State) : (s.ranThrough es).mode = s.mode := by
  simp [State.ranThrough]

@[simp] theorem ranThrough_hung (es : List Event) (s : State) : (s.ranThrough es).hung = s.hung := by
  simp [State.ranThrough]

@[simp] theorem ranThrough_answers (es : List Event) (s : State) :
    (s.ranThrough es).answers = s.answers.drop es.length := by
  simp [State.ranThrough]

/-! ### Wire commands (R59, R60, R110) -/

/-- A wire command issued by itself is the calls of its encoding (log entry 11). -/
theorem exec_wire {i : Instr} {op : Byte} {ps : List Byte} (h : encode i = .wire op ps) (hs : s.hung = none) :
    exec i s = (emitAll (cmd op ps) s.start).finish := by
  have hexec : exec i s = serve (sendWire i) s := by
    cases i with
    | dim b => cases b <;> cases h
    | sendCommand opcode data => cases data <;> cases h
    | init | makeFrameBuffer | showFrame | sleep | wake | setWindow | colorSpace | packColor | packRgb565 | reservedB
    | reservedCToF | reservedRsv => cases h
    | _ => rfl
  rw [hexec, serve_free _ hs, sendWire_eq h]

theorem length_cmd (op : Byte) (ps : List Byte) : (cmd op ps).length = if ps = [] then 5 else 10 := by
  by_cases h : ps = [] <;> simp [cmd, h]

theorem busBytes_cmd (op : Byte) (ps : List Byte) : (cmd op ps).flatMap busBytes = op :: ps := by
  by_cases h : ps = [] <;> simp [cmd, h, busBytes]

/-- A wire command leaves CS high, and DC as its last phase has set it (R110). -/
theorem outputs_cmd (op : Byte) (ps : List Byte) (o : Outputs) :
    ((cmd op ps).map Entry.ok).foldl Outputs.after o =
      { o with cs := .driven .high, dc := .driven (if ps = [] then .low else .high) } := by
  by_cases h : ps = [] <;> simp [cmd, h, Outputs.after]

theorem performed_cmd (op : Byte) (ps : List Byte) (s : State) : s.performed (cmd op ps) = { s with
    cs := .driven .high, dc := .driven (if ps = [] then .low else .high)
    trace := s.trace ++ (cmd op ps).map .ok, onBus := s.onBus ++ op :: ps
    seq := s.seq + (if ps = [] then 5 else 10), answers := s.answers.drop (if ps = [] then 5 else 10) } := by
  rw [State.performed_eq s (outputs_cmd op ps s.outputs), busBytes_cmd, length_cmd]
  rfl

/-- Settles O60: the calls of the command's encoding, each performed, and the end of the request. -/
theorem wireCommandsSendTheirBytes : Obligations.WireCommandsSendTheirBytes := by
  intro i op ps s rest he ⟨hs, hanswers⟩
  rw [← length_cmd op ps] at hanswers ⊢
  rw [exec_wire he hs, emitAll_finish_completes hanswers, State.ranThrough, performed_cmd, ← length_cmd op ps]
  simp [hanswers, State.close, State.start]

/-! ### SHOW, SET_WINDOW and SEND_COMMAND (R93, R111, R121) -/

/-- After its checks SET_WINDOW is its sequence of calls and nothing else. -/
theorem execSetWindow_eq {xs xe ys ye : Int} (hx : windowPair xs xe = true) (hy : windowPair ys ye = true)
    (hmode : s.mode ≠ .uninitialized) (hs : s.hung = none) :
    exec (.setWindow xs xe ys ye) s = (emitAll (windowEvents xs xe ys ye) s.start).finish := by
  have hcalls : setWindow xs xe ys ye s.start = emitAll (windowEvents xs xe ys ye) s.start := by
    obtain ⟨h, -⟩ | ⟨-, h, -⟩ | ⟨-, -, h⟩ := setWindow_cases xs xe ys ye s.start
    · simp [hx] at h
    · simp [hy] at h
    · rw [h, window_wireEvents hx hy]
  rw [← hcalls]
  exact (serve_free _ hs).trans (congrArg Run.finish (setUp_set _ hmode))

/-- Absent and empty data send no data phase (R110), and a region is sent whole (R41). -/
theorem cmdEvents_region (op : Byte) (data : Option (List Byte)) :
    cmdEvents op (data.map fun d => memRead d 0 d.length) = cmd op (data.getD []) := by
  cases data with
  | none => exact cmdEvents_none op
  | some d => rw [Option.map_some, memRead_all, cmdEvents_eq_cmd, Option.getD_some]

/-- After its checks SEND_COMMAND is its sequence of calls and nothing else. -/
theorem execSendCommand_eq {opcode : Int} (data : Option (List Byte)) (hop : opcodeLegal opcode = true)
    (hmode : s.mode ≠ .uninitialized) (hs : s.hung = none) :
    exec (.sendCommand opcode data) s =
      (emitAll (cmd (BitVec.ofInt 8 opcode) (data.getD [])) s.start).finish := by
  rw [← cmdEvents_region]
  exact (serve_free _ hs).trans (congrArg Run.finish ((setUp_set (s := s.start) _ hmode).trans (if_pos hop)))

/-! ### The same calls in one request or in two (R68) -/

@[simp] theorem State.start_outputs (s : State) : s.start.outputs = s.outputs := rfl

@[simp] theorem State.close_outputs (o : Reply) (s : State) : (s.close o).outputs = s.outputs := rfl

@[simp] theorem State.performed_outputs (es : List Event) (s : State) :
    (s.performed es).outputs = (es.map Entry.ok).foldl Outputs.after s.outputs := by
  induction es generalizing s with
  | nil => rfl
  | cons e es ih =>
    rw [State.performed_cons, ih, State.completed_outputs]
    rfl

/-- Calls made by one request, or a first part by one and the rest by the next, leave the same lines, TRACE and bus. -/
theorem ranThrough_append (es fs : List Event) (s : State) :
    let t := s.ranThrough (es ++ fs)
    let v := (s.ranThrough es).ranThrough fs
    t.trace = v.trace ∧ t.outputs = v.outputs ∧ t.onBus = v.onBus := by
  simp [State.ranThrough]

/-- Settles O47: SHOW's calls are those of the full-panel window and then of RAMWR. -/
theorem showEqualsWindowThenMemoryWrite : Obligations.ShowEqualsWindowThenMemoryWrite := by
  intro buf s rest hbuf hmode ⟨hs, hanswers⟩
  have hcmd : (cmd 0x2C buf).length = 10 := by rw [length_cmd, if_neg hbuf]
  have hsplit : s.answers = List.replicate 20 .completes ++ (List.replicate 10 .completes ++ rest) := hanswers
  have hshow : exec (.showFrame buf) s = .next (s.ranThrough (showEvents buf)) := by
    rw [execShowFrame_eq buf hmode hs, emitAll_finish_completes (rest := rest)]
    rw [showEvents, List.length_append, hcmd]
    exact hanswers
  have hwindow : exec (.setWindow 0 239 0 239) s = .next (s.ranThrough (windowEvents 0 239 0 239)) := by
    rw [execSetWindow_eq rfl rfl hmode hs]
    exact emitAll_finish_completes hsplit
  have hsend : exec (.sendCommand 0x2C (some buf)) (s.ranThrough (windowEvents 0 239 0 239)) =
      .next ((s.ranThrough (windowEvents 0 239 0 239)).ranThrough (cmd 0x2C buf)) := by
    have hrest : (s.ranThrough (windowEvents 0 239 0 239)).answers =
        List.replicate (cmd 0x2C buf).length .completes ++ rest := by
      rw [ranThrough_answers, hsplit, hcmd]
      rfl
    rw [execSendCommand_eq (some buf) rfl (by simpa using hmode) (by simpa using hs)]
    exact emitAll_finish_completes hrest
  obtain ⟨htrace, houtputs, hbus⟩ := ranThrough_append (windowEvents 0 239 0 239) (cmd 0x2C buf) s
  exact ⟨_, _, _, hshow, hwindow, hsend, htrace, congrArg Outputs.cs houtputs, congrArg Outputs.dc houtputs, hbus⟩

end Sys2Proof.Machine
end

section
/-! The value requests and the reserved headers: they make no call and write no register (O34). -/

namespace Sys2Proof.Machine

open Sys2Proof.Safety

variable {s t : State}

/-- A request that ends in the state it started in changes SEQ, pc and the outcomes only. -/
theorem serve_frame {body : State → Run} (ht : serve body s = .next t)
    (hbody : (body s.start).Meets (fun _ => False) fun _ u => u = s.start) :
    t = { s with seq := t.seq, pc := t.pc, outcomes := t.outcomes } := by
  obtain ⟨e, -, rfl⟩ | ⟨-, u, hu, -⟩ | ⟨-, o, u, hu, rfl⟩ | ⟨-, e, u, hu, -⟩ := serve_cases ht
  · rfl
  · rw [hu] at hbody
    exact hbody.elim
  · rw [hu] at hbody
    obtain rfl : u = s.start := hbody
    rfl
  · rw [hu] at hbody
    exact hbody.elim

/-- Settles O34: after its checks and its read of CSPACE each of these requests ends where it started, without a
call. -/
theorem frameOfValueRequests : Obligations.FrameOfValueRequests := by
  intro i s t hi ht
  obtain rfl | rfl | ⟨r, g, b, rfl⟩ | ⟨r, g, b, rfl⟩ | rfl | ⟨lo, rfl⟩ | ⟨rsv, op, rfl⟩ := hi
  · exact serve_frame ht (setUp_meets (fun _ _ => rfl) (readCspace_meets fun _ => rfl))
  · exact serve_frame ht (setUp_meets (fun _ _ => rfl) (readCspace_meets fun _ => rfl))
  · exact serve_frame ht (checkFields_meets _ (fun _ _ => rfl) rfl)
  · exact serve_frame ht (checkFields_meets _ (fun _ _ => rfl) rfl)
  · exact serve_frame ht rfl
  · exact serve_frame ht rfl
  · exact serve_frame ht rfl

end Sys2Proof.Machine
end

section
/-! COLOR_SPACE, PACK_COLOR and PACK_RGB565 (O41, O42, O43). -/

namespace Sys2Proof.Machine

open Sys2Proof.Safety

variable {s : State}

theorem serve_ended {body : State → Run} {o : Reply} (hs : s.hung = none) (h : body s.start = .ended o s.start) :
    serve body s = .next (untouched s o) := by
  rw [serve_free body hs, h, Run.finish_ended, start_close]

/-- Settles O41: the setup check, then the read of CSPACE, whose one value is RGB565 (R22). -/
theorem colorSpaceReportsCspace : Obligations.ColorSpaceReportsCspace := by
  refine ⟨rfl, fun s hs hmode => ?_, fun s c hs hmode hc => ?_⟩
  · exact serve_ended hs (setUp_uninitialized _ hmode)
  · cases c
    exact ⟨rfl, serve_ended hs ((setUp_set (s := s.start) _ hmode).trans (readCspace_value _ hc))⟩

/-! ### The channels' checks (R81, R82) -/

/-- The first channel outside 0..255, in the order red, green, blue (D7). -/
theorem firstIllegal_channelTable (r g b : Int) : firstIllegal (channelTable r g b) =
    if LegalChannel r then
      if LegalChannel g then
        if LegalChannel b then none else some (.invalidArgument .blue (.bits 8))
      else some (.invalidArgument .green (.bits 8))
    else some (.invalidArgument .red (.bits 8)) := by
  have hlegal (n : ArgName) (v : Int) : (⟨n, .bits 8, v⟩ : FieldCheck).legal = true ↔ LegalChannel v :=
    fieldLegality.1 n 8 v
  simp only [channelTable, firstIllegal, hlegal]

/-- Checks that are followed by an outcome at once: the first illegal row's error, or that outcome. -/
theorem checkFields_ended (cs : List FieldCheck) (o : Reply) (s : State) :
    checkFields cs (.ended o) s = .ended ((firstIllegal cs).getD o) s := by
  cases h : firstIllegal cs <;> simp [checkFields, h]

/-- A request that checks three channels and returns `v` ends with `v`, or with the first illegal channel's error. -/
theorem channels_outcomes {r g b : Int} {v : Value} {i : Instr} (hs : s.hung = none)
    (hi : exec i s = serve (checkFields (channelTable r g b) (.ended (.ok v))) s) :
    (LegalChannel r → LegalChannel g → LegalChannel b → exec i s = .next (untouched s (.ok v))) ∧
    (¬ LegalChannel r → exec i s = .next (untouched s (.invalidArgument .red (.bits 8)))) ∧
    (LegalChannel r → ¬ LegalChannel g → exec i s = .next (untouched s (.invalidArgument .green (.bits 8)))) ∧
    (LegalChannel r → LegalChannel g → ¬ LegalChannel b →
      exec i s = .next (untouched s (.invalidArgument .blue (.bits 8)))) := by
  rw [hi, serve_ended hs (checkFields_ended _ _ _), firstIllegal_channelTable]
  refine ⟨fun hr hg hb => ?_, fun hr => ?_, fun hr hg => ?_, fun hr hg hb => ?_⟩
  · rw [if_pos hr, if_pos hg, if_pos hb, Option.getD_none]
  · rw [if_neg hr, Option.getD_some]
  · rw [if_pos hr, if_neg hg, Option.getD_some]
  · rw [if_pos hr, if_pos hg, if_neg hb, Option.getD_some]

/-! ### The packed values -/

theorem ofNat_shiftLeft (w n k : Nat) : BitVec.ofNat w (n <<< k) = BitVec.ofNat w n <<< k := by
  apply BitVec.eq_of_toNat_eq
  simp [Nat.shiftLeft_eq, Nat.mod_mul_mod]

theorem ofNat_shiftRight {w n : Nat} (k : Nat) (h : n < 2 ^ w) :
    BitVec.ofNat w (n >>> k) = BitVec.ofNat w n >>> k := by
  apply BitVec.eq_of_toNat_eq
  have hk : n >>> k < 2 ^ w := Nat.lt_of_le_of_lt (Nat.shiftRight_le n k) h
  simp [Nat.mod_eq_of_lt h, Nat.mod_eq_of_lt hk]

theorem packColor_natCast (r g b : Nat) :
    packColor r g b = BitVec.ofNat 24 (r ||| (g <<< 8) ||| (b <<< 16)) := by
  simp only [packColor, BitVec.ofInt_natCast, BitVec.ofNat_or, ofNat_shiftLeft]

/-- Settles O42: on channels that are natural numbers the value's words are those of the formula. -/
theorem packColorValue : Obligations.PackColorValue := by
  refine ⟨rfl, rfl, rfl, rfl, rfl, fun r g b s hs => ?_⟩
  obtain ⟨hok, herrors⟩ := channels_outcomes (i := .packColor r g b) hs rfl
  refine ⟨fun hr hg hb => ?_, herrors⟩
  rw [hok hr hg hb, ← packColor_natCast, Int.toNat_of_nonneg hr.1, Int.toNat_of_nonneg hg.1,
    Int.toNat_of_nonneg hb.1]

/-- R82's formula, on natural numbers. -/
def rgb565Word (r g b : Nat) : Nat := ((r &&& 0xF8) <<< 8) ||| ((g &&& 0xFC) <<< 3) ||| (b >>> 3)

/-- The mask that keeps all but the `k` low bits of a number of `k + j` bits. -/
theorem and_highMask {n j k : Nat} (h : n < 2 ^ (k + j)) : n &&& ((2 ^ j - 1) <<< k) = 2 ^ k * (n / 2 ^ k) := by
  have hhigh : n >>> k < 2 ^ j := by
    rwa [Nat.shiftRight_eq_div_pow, Nat.div_lt_iff_lt_mul (Nat.two_pow_pos k), ← Nat.pow_add, Nat.add_comm]
  calc n &&& ((2 ^ j - 1) <<< k)
      = ((n >>> k) &&& (2 ^ j - 1)) <<< k := by
        apply Nat.eq_of_testBit_eq
        intro i
        by_cases hi : k ≤ i <;> simp [hi, Bool.and_comm]
    _ = (n >>> k) <<< k := by rw [Nat.and_two_pow_sub_one_of_lt_two_pow hhigh]
    _ = 2 ^ k * (n / 2 ^ k) := by rw [Nat.shiftLeft_eq, Nat.shiftRight_eq_div_pow, Nat.mul_comm]

/-- The three fields of R82's value: they do not overlap. -/
theorem rgb565Word_eq {r g b : Nat} (hr : r < 256) (hg : g < 256) (hb : b < 256) :
    rgb565Word r g b = 2 ^ 11 * (r / 8) + (2 ^ 5 * (g / 4) + b / 8) := by
  have hred : (r &&& 0xF8) <<< 8 = 2 ^ 11 * (r / 8) := by
    have hmask : r &&& 0xF8 = 2 ^ 3 * (r / 8) := and_highMask (j := 5) (k := 3) hr
    omega
  have hgreen : (g &&& 0xFC) <<< 3 = 2 ^ 5 * (g / 4) := by
    have hmask : g &&& 0xFC = 2 ^ 2 * (g / 4) := and_highMask (j := 6) (k := 2) hg
    omega
  have hblue : b >>> 3 = b / 8 := Nat.shiftRight_eq_div_pow b 3
  have hlow : b / 8 < 2 ^ 5 := by omega
  have hmid : 2 ^ 5 * (g / 4) + b / 8 < 2 ^ 11 := by omega
  rw [rgb565Word, hred, hgreen, hblue, Nat.or_assoc, ← Nat.two_pow_add_eq_or_of_lt hlow,
    ← Nat.two_pow_add_eq_or_of_lt hmid]

theorem packRgb565_natCast {b : Nat} (r g : Nat) (hb : b < 2 ^ 16) :
    packRgb565 r g b = BitVec.ofNat 16 (rgb565Word r g b) := by
  simp only [packRgb565, rgb565Word, BitVec.ofInt_natCast, BitVec.ofNat_or, BitVec.ofNat_and, BitVec.ofNat_eq_ofNat,
    ofNat_shiftLeft, ofNat_shiftRight 3 hb]

theorem toNat_packRgb565 {r g b : Int} (hr : LegalChannel r) (hg : LegalChannel g) (hb : LegalChannel b) :
    (packRgb565 r g b).toNat = rgb565Word r.toNat g.toNat b.toNat := by
  have hfields := rgb565Word_eq (r := r.toNat) (g := g.toNat) (b := b.toNat) (by omega) (by omega) (by omega)
  have hword : rgb565Word r.toNat g.toNat b.toNat < 2 ^ 16 := by omega
  rw [← Nat.mod_eq_of_lt hword, ← BitVec.toNat_ofNat, ← packRgb565_natCast _ _ (by omega),
    Int.toNat_of_nonneg hr.1, Int.toNat_of_nonneg hg.1, Int.toNat_of_nonneg hb.1]

/-- Settles O43: the value is R82's formula, whose fields stand side by side. -/
theorem packRgb565Value : Obligations.PackRgb565Value := by
  refine ⟨rfl, fun r g b s hs => ?_⟩
  obtain ⟨hok, herrors⟩ := channels_outcomes (i := .packRgb565 r g b) hs rfl
  refine ⟨fun hr hg hb => ⟨_, hok hr hg hb, ?_⟩, herrors⟩
  have hfields := rgb565Word_eq (r := r.toNat) (g := g.toNat) (b := b.toNat) (by omega) (by omega) (by omega)
  rw [toNat_packRgb565 hr hg hb]
  exact ⟨rfl, by omega, by omega, by omega⟩

end Sys2Proof.Machine
end

section
/-! The calls of SHOW, SEND_COMMAND, SET_WINDOW and the wire commands drive CS, DC and the serial bus only (O35). -/

namespace Sys2Proof.Machine

open Sys2Proof.Safety

variable {i : Instr} {s t : State}

/-! ### The outputs after an instruction (R24, R25) -/

/-- The four outputs are what the instruction's calls made of them, however each was answered. -/
theorem exec_next_outputs {d : U16} (hd : ∀ d', s.duty = .value d' → d' = d) (hs : s.hung = none)
    (ht : exec i s = .next t) :
    ∃ xs : List Entry, xs.map Entry.event <+: sequenceOf i d ∧ t.outputs = xs.foldl Outputs.after s.outputs := by
  have hevents (es : List Event) : (es.map Entry.ok).map Entry.event = es := by
    simp [Function.comp_def, Entry.event]
  obtain ⟨done, g, ⟨o, hdone, -, rfl⟩ | ⟨e, n, hdone, rfl⟩ | ⟨e, n, hdone, rfl⟩⟩ := exec_next_calls hd hs ht
  · exact ⟨done.map .ok, by rwa [hevents], State.performed_outputs done s.start⟩
  · refine ⟨done.map .ok ++ [.failed e], by rwa [List.map_append, hevents], ?_⟩
    rw [List.foldl_append, ← State.start_outputs s, ← State.performed_outputs]
    exact State.failed_outputs e n _
  · refine ⟨done.map .ok, by rw [hevents]; exact (List.prefix_append done [e]).trans hdone, ?_⟩
    rw [← State.start_outputs s, ← State.performed_outputs]
    exact State.stall_outputs e n _

/-! ### Calls on CS, DC and the serial bus (R43) -/

/-- The call drives neither RST nor PWM. -/
def Event.onBusLines : Event → Bool
  | .setCS _ | .setDC _ | .spiWrite _ => true
  | .setRST _ | .pwmDuty _ => false

theorem onBusLines_cmd (op : Byte) (ps : List Byte) : ∀ e ∈ cmd op ps, e.onBusLines = true := by
  by_cases h : ps = [] <;> simp [cmd, h, Event.onBusLines]

theorem onBusLines_windowEvents (xs xe ys ye : Int) : ∀ e ∈ windowEvents xs xe ys ye, e.onBusLines = true :=
  List.forall_mem_append.mpr ⟨onBusLines_cmd _ _, onBusLines_cmd _ _⟩

theorem after_onBusLines (o : Outputs) : ∀ {x : Entry}, x.event.onBusLines = true →
    (o.after x).rst = o.rst ∧ (o.after x).pwm = o.pwm
  | .ok (.setCS _), _ | .ok (.setDC _), _ | .ok (.spiWrite _), _ => ⟨rfl, rfl⟩
  | .failed (.setCS _), _ | .failed (.setDC _), _ | .failed (.spiWrite _), _ => ⟨rfl, rfl⟩

theorem foldl_after_onBusLines {xs : List Entry} (o : Outputs) (h : ∀ x ∈ xs, x.event.onBusLines = true) :
    (xs.foldl Outputs.after o).rst = o.rst ∧ (xs.foldl Outputs.after o).pwm = o.pwm := by
  induction xs generalizing o with
  | nil => exact ⟨rfl, rfl⟩
  | cons x xs ih =>
    obtain ⟨hx, hxs⟩ := List.forall_mem_cons.mp h
    obtain ⟨hrst, hpwm⟩ := after_onBusLines o hx
    obtain ⟨hrst', hpwm'⟩ := ih (o.after x) hxs
    exact ⟨hrst'.trans hrst, hpwm'.trans hpwm⟩

/-- An instruction whose sequence stays on CS, DC and the serial bus leaves RST and PWM, wherever it stopped. -/
theorem exec_keeps_rst_pwm (hseq : ∀ d, ∀ e ∈ sequenceOf i d, e.onBusLines = true) (ht : exec i s = .next t) :
    t.rst = s.rst ∧ t.pwm = s.pwm := by
  cases hs : s.hung with
  | some e =>
    obtain rfl : s = t := by simpa [exec_hung i hs] using ht
    exact ⟨rfl, rfl⟩
  | none =>
    obtain ⟨d, hd⟩ := exists_duty s
    obtain ⟨xs, hxs, houtputs⟩ := exec_next_outputs hd hs ht
    obtain ⟨hrst, hpwm⟩ := foldl_after_onBusLines s.outputs fun x hx =>
      hseq d _ (hxs.subset (List.mem_map_of_mem hx))
    exact ⟨(congrArg Outputs.rst houtputs).trans hrst, (congrArg Outputs.pwm houtputs).trans hpwm⟩

/-! ### The bus senders (R93, R110, R111, R122) -/

theorem sequenceOf_wire {op : Byte} {ps : List Byte} (d : U16) (h : encode i = .wire op ps) :
    sequenceOf i d = cmd op ps := by
  cases i with
  | dim b => cases b <;> cases h
  | sendCommand opcode data => cases data <;> cases h
  | init | makeFrameBuffer | showFrame | sleep | wake | setWindow | colorSpace | packColor | packRgb565 | reservedB
  | reservedCToF | reservedRsv => cases h
  | _ => cases h; rfl

theorem encode_of_isWire (h : isWire i = true) : ∃ op ps, encode i = .wire op ps := by
  cases he : encode i with
  | wire op ps => exact ⟨op, ps, rfl⟩
  | request hd ops => simp [isWire, he] at h

/-- SHOW, SEND_COMMAND, SET_WINDOW, or one of the 21 wire commands. -/
abbrev BusSender (i : Instr) : Prop :=
  (∃ b, i = .showFrame b) ∨ (∃ o d, i = .sendCommand o d) ∨ (∃ a b c d, i = .setWindow a b c d) ∨ isWire i = true

/-- The sequence of each is made of wire commands. -/
theorem BusSender.onBusLines (hi : BusSender i) (d : U16) : ∀ e ∈ sequenceOf i d, e.onBusLines = true := by
  obtain ⟨b, rfl⟩ | ⟨o, data, rfl⟩ | ⟨xs, xe, ys, ye, rfl⟩ | hw := hi
  · exact List.forall_mem_append.mpr ⟨onBusLines_windowEvents _ _ _ _, onBusLines_cmd _ _⟩
  · exact onBusLines_cmd _ _
  · exact onBusLines_windowEvents xs xe ys ye
  · obtain ⟨op, ps, h⟩ := encode_of_isWire hw
    rw [sequenceOf_wire d h]
    exact onBusLines_cmd op ps

/-- None is a request that writes MODE, CSPACE or DUTY (R21, R22, R23). -/
theorem BusSender.ne (hi : BusSender i) : (∀ c, i ≠ .init c) ∧ i ≠ .sleep ∧ i ≠ .wake ∧ ∀ b, i ≠ .dim (some b) := by
  obtain ⟨b, rfl⟩ | ⟨o, data, rfl⟩ | ⟨xs, xe, ys, ye, rfl⟩ | hw := hi
  · simp
  · simp
  · simp
  · have hne {j : Instr} (hj : isWire j = false) : i ≠ j := fun h => by simp [h, hj] at hw
    exact ⟨fun _ => hne rfl, hne rfl, hne rfl, fun _ => hne rfl⟩

/-- Settles O35: none of these is a request that writes MODE, CSPACE or DUTY (O31), none makes a call on RST or PWM,
and no instruction writes the host's requests (O32). -/
theorem frameOfBusSenders : Obligations.FrameOfBusSenders := by
  intro i s t hi ht
  obtain ⟨hinit, hsleep, hwake, hdim⟩ := BusSender.ne hi
  obtain ⟨hmode, hcspace, hduty⟩ := onlyTheirRequestsWriteModeCspaceDuty i s t ht
  obtain ⟨hrst, hpwm⟩ := exec_keeps_rst_pwm (BusSender.onBusLines hi) ht
  obtain ⟨hreqs, -, -⟩ := noInstructionChangesTheProgram i s t ht
  exact ⟨hmode hinit hsleep hwake, hcspace hinit, hduty hinit hdim, hrst, hpwm, hreqs⟩

end Sys2Proof.Machine
end

section
/-! MAKE_FRAME_BUFFER, and SHOW with every call completing (O44, O45). -/

namespace Sys2Proof.Machine

open Sys2Proof.Safety

/-! ### MAKE_FRAME_BUFFER (R90) -/

theorem newFrameBuffer_rgb565 :
    newFrameBuffer .rgb565 = ⟨240, 240, .rgb565, 240, List.replicate 115200 0⟩ := rfl

/-- Settles O44: the setup check, then the read of CSPACE, and the buffer of its one value. -/
theorem makeFrameBufferSizedToPanel : Obligations.MakeFrameBufferSizedToPanel := by
  refine ⟨rfl, fun s hs hmode => ?_, fun s hs hmode hc => ?_⟩
  · exact serve_ended hs (setUp_uninitialized _ hmode)
  · rw [← newFrameBuffer_rgb565]
    exact serve_ended hs ((setUp_set (s := s.start) _ hmode).trans (readCspace_value _ hc))

/-! ### SHOW (R91 to R93) -/

theorem windowEvents_fullPanel :
    windowEvents 0 239 0 239 = cmd 0x2A [0x00, 0x00, 0x00, 0xEF] ++ cmd 0x2B [0x00, 0x00, 0x00, 0xEF] := rfl

theorem length_showEvents (buf : List Byte) : (showEvents buf).length = if buf = [] then 25 else 30 := by
  rw [showEvents, windowEvents_fullPanel, List.length_append, List.length_append, length_cmd, length_cmd, length_cmd]
  by_cases h : buf = [] <;> simp [h]

/-- SHOW's calls, each performed: three wire commands, of which the last has a data phase unless `buf` is empty. -/
theorem performed_showEvents (buf : List Byte) (s : State) : s.performed (showEvents buf) = { s with
    cs := .driven .high, dc := .driven (if buf = [] then .low else .high)
    trace := s.trace ++ (showEvents buf).map .ok
    onBus := s.onBus ++ [0x2A, 0x00, 0x00, 0x00, 0xEF, 0x2B, 0x00, 0x00, 0x00, 0xEF, 0x2C] ++ buf
    seq := s.seq + (showEvents buf).length, answers := s.answers.drop (showEvents buf).length } := by
  have houtputs : ((showEvents buf).map Entry.ok).foldl Outputs.after s.outputs =
      { s.outputs with cs := .driven .high, dc := .driven (if buf = [] then .low else .high) } := by
    rw [showEvents, windowEvents_fullPanel]
    simp [outputs_cmd]
  have hbus : (showEvents buf).flatMap busBytes =
      [0x2A, 0x00, 0x00, 0x00, 0xEF, 0x2B, 0x00, 0x00, 0x00, 0xEF, 0x2C] ++ buf := by
    rw [showEvents, windowEvents_fullPanel]
    simp [busBytes_cmd]
  rw [State.performed_eq s houtputs, hbus, List.append_assoc]
  rfl

/-- Settles O45: after its setup check SHOW is its calls, each performed, and the end of the request. -/
theorem showSendsWindowThenPixels : Obligations.ShowSendsWindowThenPixels := by
  intro buf s rest hmode ⟨hs, hanswers⟩
  rw [← length_showEvents buf] at hanswers ⊢
  rw [execShowFrame_eq buf hmode hs, emitAll_finish_completes hanswers, State.ranThrough, performed_showEvents]
  simp [hanswers, State.close, State.start, showEvents, windowEvents_fullPanel]

end Sys2Proof.Machine
end

section
/-! SLEEP, WAKE and DIM: the calls and the write each one is, and from these O48, O49, O50 and O53 (R100, R101,
R102). -/

namespace Sys2Proof.Machine

open Sys2Proof.Safety

variable {s : State} {d : U16} {rest : List Answer}

theorem emitAll_singleton (e : Event) : emitAll [e] = emit e := by
  funext s
  rw [emitAll_cons]
  cases emit e s <;> rfl

/-! ### SLEEP (R100) -/

/-- SLEEP, after its setup check: its calls, then the write of MODE. -/
theorem execSleep_eq (hmode : s.mode ≠ .uninitialized) (hs : s.hung = none) :
    exec .sleep s = ((emitAll sleepEvents s.start).andThen fun u => .going (u.setMode .asleep)).finish := by
  have hcalls : emitAll sleepEvents s.start =
      ((emit (.pwmDuty 0) s.start).andThen (sendWire .dispoff)).andThen (sendWire .slpin) := by
    rw [sleepEvents, emitAll_append, emitAll_append, sendWire_eq (i := .dispoff) rfl, sendWire_eq (i := .slpin) rfl,
      ← emitAll_singleton]
    rfl
  rw [hcalls]
  exact (serve_free _ hs).trans (congrArg Run.finish (setUp_set _ hmode))

theorem performed_sleepEvents (s : State) : s.performed sleepEvents = { s with
    pwm := .duty 0, cs := .driven .high, dc := .driven .low
    trace := s.trace ++ sleepEvents.map .ok, onBus := s.onBus ++ [0x28, 0x10]
    seq := s.seq + 11, answers := s.answers.drop 11 } := State.performed_eq s rfl

/-- Settles O48: SLEEP's calls, each performed, the write of MODE and the end of the request. -/
theorem sleepDarkensThenPowersDown : Obligations.SleepDarkensThenPowersDown := by
  intro s rest hmode ⟨hs, hanswers⟩
  have hcalls : emitAll sleepEvents s.start = .going (s.start.performed sleepEvents) :=
    emitAll_completes sleepEvents rest hanswers
  rw [execSleep_eq hmode hs, hcalls, performed_sleepEvents]
  simp [hanswers, State.close, State.start, State.setMode, sleepEvents]

/-! ### WAKE (R101) -/

/-- WAKE, after its setup check: SLPOUT and DISPON, the duty held, then the write of MODE. -/
theorem execWake_eq (hmode : s.mode ≠ .uninitialized) (hs : s.hung = none) :
    exec .wake s = (((emitAll (cmd 0x11 [] ++ cmd 0x29 []) s.start).andThen applyDuty).andThen
      fun u => .going (u.setMode .awake)).finish := by
  rw [emitAll_append, ← sendWire_eq (i := .slpout) (op := 0x11) rfl,
    ← sendWire_eq (i := .dispon) (op := 0x29) rfl]
  exact (serve_free _ hs).trans (congrArg Run.finish (setUp_set _ hmode))

/-- WAKE's calls, where DUTY holds a value. -/
theorem wakeEvents_eq (hd : s.duty = .value d) :
    (emitAll (cmd 0x11 [] ++ cmd 0x29 []) s).andThen applyDuty = emitAll (wakeEvents d) s := by
  rw [wakeEvents, emitAll_append _ [.pwmDuty d]]
  cases hu : emitAll (cmd 0x11 [] ++ cmd 0x29 []) s with
  | going u =>
    have hduty : u.duty = .value d := by rw [emitAll_eq_going hu, State.performed_duty, hd]
    rw [Run.andThen_going, Run.andThen_going, applyDuty_value hduty, emitAll_singleton]
  | ended o u => rfl
  | stuck e u => rfl
  | fault f => rfl

theorem performed_wakeEvents (d : U16) (s : State) : s.performed (wakeEvents d) = { s with
    pwm := .duty d, cs := .driven .high, dc := .driven .low
    trace := s.trace ++ (wakeEvents d).map .ok, onBus := s.onBus ++ [0x11, 0x29]
    seq := s.seq + 11, answers := s.answers.drop 11 } := State.performed_eq s rfl

/-- Settles O49: WAKE's calls, each performed, the write of MODE and the end of the request. -/
theorem wakeRestoresTheStoredDuty : Obligations.WakeRestoresTheStoredDuty := by
  intro d s rest hmode hd ⟨hs, hanswers⟩
  have hcalls : emitAll (wakeEvents d) s.start = .going (s.start.performed (wakeEvents d)) :=
    emitAll_completes (wakeEvents d) rest hanswers
  rw [execWake_eq hmode hs, wakeEvents_eq (s := s.start) hd, hcalls, performed_wakeEvents]
  simp [hanswers, State.close, State.start, State.setMode, wakeEvents]

/-- Settles O53: the state O48 says SLEEP leaves holds `d` in DUTY still, and O49 says what WAKE makes of it. -/
theorem sleepThenWakeRestoresTheDuty : Obligations.SleepThenWakeRestoresTheDuty := by
  intro d s rest hmode hd ⟨hs, hanswers⟩
  have hsleep := sleepDarkensThenPowersDown s (List.replicate 11 .completes ++ rest) hmode ⟨hs, hanswers⟩
  exact ⟨_, _, hsleep, wakeRestoresTheStoredDuty d _ rest nofun hd ⟨hs, rfl⟩, rfl, rfl, rfl, rfl, hd⟩

/-! ### DIM (R102) -/

/-- DIM without an operand applies what DUTY holds. -/
theorem execDim_none_eq (hmode : s.mode ≠ .uninitialized) (hd : s.duty = .value d) (hs : s.hung = none) :
    exec (.dim none) s = (emit (.pwmDuty d) s.start).finish :=
  (serve_free _ hs).trans
    (congrArg Run.finish ((setUp_set (s := s.start) _ hmode).trans (applyDuty_value (s := s.start) hd)))

/-- DIM with an operand in [0, 1] writes DUTY and applies it. -/
theorem execDim_some_eq {b : BitVec 64} (hmode : s.mode ≠ .uninitialized) (hb : inUnitInterval b = true)
    (hs : s.hung = none) :
    exec (.dim (some b)) s = (emit (.pwmDuty (dutyOf b)) (s.start.setDuty (dutyOf b))).finish :=
  (serve_free _ hs).trans (congrArg Run.finish ((setUp_set (s := s.start) _ hmode).trans
    ((if_pos hb).trans (applyDuty_value (State.setDuty_duty _ _)))))

/-- Settles O50: one completed call, from a state whose DUTY holds the duty applied. -/
theorem dimStoresAndApplies : Obligations.DimStoresAndApplies := by
  refine ⟨fun b s rest hmode hb ⟨hs, hanswers⟩ => ?_, fun d s rest hmode hd ⟨hs, hanswers⟩ => ?_⟩
  · rw [execDim_some_eq hmode hb hs, emit_completes (s := s.start.setDuty _) _ hanswers, Run.finish_going,
      State.completed_eq]
    simp [hanswers, State.close, State.start, State.setDuty, State.outputs, Outputs.after, busBytes]
  · rw [execDim_none_eq hmode hd hs, emit_completes (s := s.start) _ hanswers, Run.finish_going, State.completed_eq]
    simp [hanswers, State.close, State.start, State.outputs, Outputs.after, busBytes]

end Sys2Proof.Machine
end

section
/-! SLEEP, WAKE and DIM whatever the transport answers: what a stopped one leaves, and their frame (O51, O36). -/

namespace Sys2Proof.Machine

open Sys2Proof.Safety

variable {i : Instr} {r : Run} {s t : State}

/-! ### Requests that write MODE last (R100, R101, D13) -/

/-- The request issued in `s` is not at its end yet, and MODE is not written. -/
abbrev BeforeMode (s u : State) : Prop := u.hung = none ∧ u.outcomes = s.outcomes ∧ u.mode = s.mode

theorem emitAll_beforeMode (es : List Event) {u : State} (hu : BeforeMode s u) :
    (emitAll es u).Leaves (BeforeMode s) := by
  refine emitAll_leaves (fun _ _ hv => ?_) (fun _ _ _ hv => ?_) (fun _ _ _ hv => ?_) es hu
  · simpa [BeforeMode] using hv
  · simpa [BeforeMode] using hv
  · simpa [BeforeMode] using hv

theorem applyDuty_beforeMode {u : State} (hu : BeforeMode s u) : (applyDuty u).Leaves (BeforeMode s) := by
  cases h : u.duty with
  | noValue => simp [applyDuty, readDuty, h, Run.Leaves]
  | value d =>
    rw [applyDuty_value h, ← emitAll_singleton]
    exact emitAll_beforeMode _ hu

/-- A request that ends with the write of MODE and then `Ok` has not written it where it ended otherwise or hangs. -/
theorem mode_of_stopped {m : Mode} {e : Event} (hr : r.Leaves (BeforeMode s))
    (ht : (r.andThen fun u => .going (u.setMode m)).finish = .next t)
    (hstop : t.outcomes = s.outcomes ++ [.transportError e] ∨ t.hung = some e) : t.mode = s.mode := by
  cases r with
  | going u =>
    obtain ⟨hhung, hout, -⟩ := hr
    cases ht
    simp [hhung, hout] at hstop
  | ended o u =>
    obtain ⟨-, -, hmode⟩ := hr
    cases ht
    exact hmode
  | stuck e' u =>
    obtain ⟨-, -, hmode⟩ := hr
    cases ht
    exact hmode
  | fault f => cases ht

/-- SLEEP and WAKE, after their setup check: a part that leaves MODE, then the write of MODE. -/
theorem exec_sleep_or_wake (hi : i = .sleep ∨ i = .wake) (hmode : s.mode ≠ .uninitialized) (hs : s.hung = none) :
    ∃ (r : Run) (m : Mode), r.Leaves (BeforeMode s) ∧ exec i s = (r.andThen fun u => .going (u.setMode m)).finish := by
  have hstart : BeforeMode s s.start := ⟨hs, rfl, rfl⟩
  obtain rfl | rfl := hi
  · exact ⟨_, .asleep, emitAll_beforeMode _ hstart, execSleep_eq hmode hs⟩
  · refine ⟨_, .awake, ?_, execWake_eq hmode hs⟩
    exact (emitAll_beforeMode _ hstart).andThen fun _ => applyDuty_beforeMode

theorem sleep_or_wake_uninitialized (hi : i = .sleep ∨ i = .wake) (hmode : s.mode = .uninitialized)
    (hs : s.hung = none) : exec i s = .next (untouched s .invalidState) := by
  obtain rfl | rfl := hi <;> exact serve_ended hs (setUp_uninitialized _ hmode)

/-- A DIM of an operand in [0, 1], after its setup check: DUTY holds the new duty whatever the transport answers, and a
TransportError is the failure of its one call (R102, R25). -/
theorem execDim_some_leaves {b : BitVec 64} (hb : inUnitInterval b = true) (hs : s.hung = none)
    (hmode : s.mode ≠ .uninitialized) (ht : exec (.dim (some b)) s = .next t) :
    t.duty = .value (dutyOf b) ∧ ∀ e, t.outcomes = s.outcomes ++ [.transportError e] →
      t.pwm = .unknown ∧ e = .pwmDuty (dutyOf b) := by
  rw [execDim_some_eq hmode hb hs] at ht
  obtain ⟨-, h⟩ | ⟨n, -, h⟩ | ⟨n, -, h⟩ := emit_cases (.pwmDuty (dutyOf b)) (s.start.setDuty (dutyOf b)) <;>
    rw [h] at ht <;> cases ht
  · exact ⟨by simp, fun e he => by simp at he⟩
  · exact ⟨by simp, fun e he => ⟨rfl, by simpa using he.symm⟩⟩
  · exact ⟨by simp, fun e he => by simp at he⟩

/-- Settles O51: where MODE is Uninitialized the three requests end with InvalidState; else SLEEP and WAKE write MODE
after every call, and DIM writes DUTY before its call. -/
theorem failedPowerRequestsKeepTheirOrder : Obligations.FailedPowerRequestsKeepTheirOrder := by
  refine ⟨fun i s t e hi hs ht hstop => ?_, fun b s t hb hs hmode ht => ?_, fun b s t e hb hs ht hout => ?_⟩
  · by_cases hmode : s.mode = .uninitialized
    · rw [sleep_or_wake_uninitialized hi hmode hs] at ht
      cases ht
      rfl
    · obtain ⟨r, m, hr, hexec⟩ := exec_sleep_or_wake hi hmode hs
      exact mode_of_stopped hr (hexec.symm.trans ht) hstop
  · obtain ⟨hduty, -⟩ := execDim_some_leaves hb hs hmode ht
    exact hduty
  · by_cases hmode : s.mode = .uninitialized
    · have hend : exec (.dim (some b)) s = .next (untouched s .invalidState) :=
        serve_ended hs (setUp_uninitialized _ hmode)
      rw [hend] at ht
      cases ht
      simp [untouched] at hout
    · obtain ⟨hduty, hfailed⟩ := execDim_some_leaves hb hs hmode ht
      exact ⟨hduty, hfailed e hout⟩

/-! ### What an instruction's calls leave of the outputs and the bus -/

/-- A call that, completed or failed, leaves the part `f` of the outputs (R24, R25). -/
def Event.Keeps {α : Type} (f : Outputs → α) (e : Event) : Prop :=
  ∀ o : Outputs, f (o.after (.ok e)) = f o ∧ f (o.after (.failed e)) = f o

theorem foldl_after_keeps {α : Type} {f : Outputs → α} {xs : List Entry} (h : ∀ x ∈ xs, x.event.Keeps f)
    (o : Outputs) : f (xs.foldl Outputs.after o) = f o := by
  induction xs generalizing o with
  | nil => rfl
  | cons x xs ih =>
    obtain ⟨hx, hxs⟩ := List.forall_mem_cons.mp h
    have hentry : f (o.after x) = f o := by
      cases x with
      | ok e => exact (hx o).1
      | failed e => exact (hx o).2
    exact (ih hxs (o.after x)).trans hentry

/-- A part of the outputs that each call of the instruction's sequence leaves, the instruction leaves, wherever it
stopped. -/
theorem exec_keeps_outputs {α : Type} {f : Outputs → α} (hseq : ∀ d, ∀ e ∈ sequenceOf i d, e.Keeps f)
    (ht : exec i s = .next t) : f t.outputs = f s.outputs := by
  cases hs : s.hung with
  | some e =>
    obtain rfl : s = t := by simpa [exec_hung i hs] using ht
    rfl
  | none =>
    obtain ⟨d, hd⟩ := exists_duty s
    obtain ⟨xs, hxs, houtputs⟩ := exec_next_outputs hd hs ht
    rw [houtputs]
    exact foldl_after_keeps (fun x hx => hseq d _ (hxs.subset (List.mem_map_of_mem hx))) s.outputs

/-- An instruction whose sequence has no bus write puts nothing on the serial bus. -/
theorem exec_keeps_onBus (hseq : ∀ d, ∀ e ∈ sequenceOf i d, busBytes e = []) (ht : exec i s = .next t) :
    t.onBus = s.onBus := by
  cases hs : s.hung with
  | some e =>
    obtain rfl : s = t := by simpa [exec_hung i hs] using ht
    rfl
  | none =>
    obtain ⟨d, hd⟩ := exists_duty s
    have hbytes {es : List Event} (hes : es <+: sequenceOf i d) : es.flatMap busBytes = [] :=
      List.flatMap_eq_nil_iff.mpr fun e he => hseq d e (hes.subset he)
    have hlast {es : List Event} {e : Event} (hes : es ++ [e] <+: sequenceOf i d) :
        es.flatMap busBytes = [] ∧ busBytes e = [] := by simpa using hbytes hes
    obtain ⟨done, g, ⟨o, hdone, -, rfl⟩ | ⟨e, n, hdone, rfl⟩ | ⟨e, n, hdone, rfl⟩⟩ := exec_next_calls hd hs ht
    · simp [hbytes hdone]
    · simp [hlast hdone]
    · simp [hlast hdone]

/-! ### The frame of SLEEP, WAKE and DIM -/

theorem pwmDuty_keeps_lines (d : U16) : (Event.pwmDuty d).Keeps fun o => (o.cs, o.dc, o.rst) := fun _ => ⟨rfl, rfl⟩

theorem pwmDuty_keeps_rst (d : U16) : (Event.pwmDuty d).Keeps Outputs.rst := fun _ => ⟨rfl, rfl⟩

theorem cmd_keeps_rst (op : Byte) (ps : List Byte) : ∀ e ∈ cmd op ps, e.Keeps Outputs.rst := by
  intro e he o
  have hbus : e.onBusLines = true := onBusLines_cmd op ps e he
  obtain ⟨hok, -⟩ := after_onBusLines o (x := .ok e) hbus
  obtain ⟨hfailed, -⟩ := after_onBusLines o (x := .failed e) hbus
  exact ⟨hok, hfailed⟩

/-- SLEEP and WAKE send two wire commands and a duty (R100, R101). -/
theorem sleep_or_wake_keeps_rst (hi : i = .sleep ∨ i = .wake) (d : U16) :
    ∀ e ∈ sequenceOf i d, e.Keeps Outputs.rst := by
  obtain rfl | rfl := hi
  · exact List.forall_mem_append.mpr ⟨List.forall_mem_append.mpr
      ⟨List.forall_mem_singleton.mpr (pwmDuty_keeps_rst 0), cmd_keeps_rst _ _⟩, cmd_keeps_rst _ _⟩
  · exact List.forall_mem_append.mpr ⟨List.forall_mem_append.mpr ⟨cmd_keeps_rst _ _, cmd_keeps_rst _ _⟩,
      List.forall_mem_singleton.mpr (pwmDuty_keeps_rst d)⟩

/-- DIM's one call is on PWM (R102). -/
theorem mem_sequenceOf_dim {b : Option (BitVec 64)} {d : U16} {e : Event} (he : e ∈ sequenceOf (.dim b) d) :
    ∃ d', e = .pwmDuty d' := by
  cases b with
  | none => exact ⟨d, List.mem_singleton.mp he⟩
  | some v => exact ⟨dutyOf v, List.mem_singleton.mp he⟩

theorem dim_keeps_lines {b : Option (BitVec 64)} (ht : exec (.dim b) s = .next t) :
    t.cs = s.cs ∧ t.dc = s.dc ∧ t.rst = s.rst := by
  have hlines : (t.cs, t.dc, t.rst) = (s.cs, s.dc, s.rst) :=
    exec_keeps_outputs (f := fun o => (o.cs, o.dc, o.rst)) (fun d e he => by
      obtain ⟨d', rfl⟩ := mem_sequenceOf_dim he
      exact pwmDuty_keeps_lines d') ht
  simpa using hlines

theorem dim_keeps_onBus {b : Option (BitVec 64)} (ht : exec (.dim b) s = .next t) : t.onBus = s.onBus := by
  refine exec_keeps_onBus (fun d e he => ?_) ht
  obtain ⟨d', rfl⟩ := mem_sequenceOf_dim he
  rfl

/-- Settles O36: the registers by O31, the requests by O32, the lines and the bus by the calls each request makes. -/
theorem frameOfPowerRequests : Obligations.FrameOfPowerRequests := by
  refine ⟨fun i s t hi ht => ?_, fun b s t ht => ?_⟩
  · obtain ⟨-, hcspace, hduty⟩ := onlyTheirRequestsWriteModeCspaceDuty i s t ht
    obtain ⟨hreqs, -, -⟩ := noInstructionChangesTheProgram i s t ht
    have hinit (c : Cfg) : i ≠ .init c := by obtain rfl | rfl := hi <;> simp
    have hdim (b : BitVec 64) : i ≠ .dim (some b) := by obtain rfl | rfl := hi <;> simp
    have hrst : t.outputs.rst = s.outputs.rst := exec_keeps_outputs (sleep_or_wake_keeps_rst hi) ht
    exact ⟨hcspace hinit, hduty hinit hdim, hrst, hreqs⟩
  · obtain ⟨hmode, hcspace, hduty⟩ := onlyTheirRequestsWriteModeCspaceDuty (.dim b) s t ht
    obtain ⟨hreqs, -, -⟩ := noInstructionChangesTheProgram (.dim b) s t ht
    obtain ⟨hcs, hdc, hrst⟩ := dim_keeps_lines ht
    have hinit (c : Cfg) : Instr.dim b ≠ .init c := by simp
    exact ⟨hmode hinit (by simp) (by simp), hcspace hinit, hcs, hdc, hrst, dim_keeps_onBus ht, hreqs,
      fun hb => hduty hinit (by simp [hb])⟩

end Sys2Proof.Machine
end

section
/-! The operand of DIM: which bit patterns lie in [0, 1] (O52), and the two roundings of R105 (O54, O55, O56). -/

namespace Sys2Proof.Machine

open Sys2Proof.Safety

variable {b : BitVec 64} {n d p r : Nat}

/-! ### The unit interval (R102) -/

/-- Of the binary64 values, 0 up to 1.0, and -0.0. -/
theorem inUnitInterval_iff (b : BitVec 64) :
    inUnitInterval b = true ↔ b.toNat ≤ 0x3FF0000000000000 ∨ b.toNat = 0x8000000000000000 := by
  have hb : b.toNat < 2 ^ 64 := b.isLt
  rw [inUnitInterval, isNegative, Bool.and_eq_true, decide_eq_true_iff, Bool.or_eq_true, Bool.not_eq_true',
    decide_eq_false_iff_not, beq_iff_eq, magnitude]
  omega

/-- Settles O52: after the setup check the operand's check ends the request. -/
theorem dimRefusesOutsideTheUnitInterval : Obligations.DimRefusesOutsideTheUnitInterval := by
  refine ⟨rfl, rfl, fun b s hs hmode => ⟨fun hb => ?_, (inUnitInterval_iff b).mpr⟩⟩
  have houtside : ¬ inUnitInterval b = true := by
    rw [inUnitInterval_iff]
    omega
  exact serve_ended hs ((setUp_set (s := s.start) _ hmode).trans (if_neg houtside))

/-! ### To the nearest integer, ties to even -/

/-- Settles O54: with `n = q * d + r` the three branches compare `2 * r` with `d`. -/
theorem roundHalfEvenIsNearest : Obligations.RoundHalfEvenIsNearest := by
  intro n d hd
  have hdiv : n / d * d + n % d = n := Nat.div_add_mod' n d
  have hmod : n % d < d := Nat.mod_lt n hd
  have hnext : (n / d + 1) * d = n / d * d + d := Nat.succ_mul _ _
  simp only [RoundsHalfEven, roundHalfEven]
  split
  · omega
  · split
    · rw [hnext]
      omega
    · split
      · omega
      · rw [hnext]
        omega

/-- What is rounded does not pass an integer: `r * d` is less than `d` away from `n`. -/
theorem roundsHalfEven_le (h : RoundsHalfEven n d r) (hd : 0 < d) {m : Nat} (hn : n ≤ m * d) : r ≤ m := by
  obtain ⟨hr, -, -⟩ := h
  have hlt : r * d < (m + 1) * d := by rw [Nat.succ_mul]; omega
  exact Nat.lt_succ_iff.mp (Nat.lt_of_mul_lt_mul_right hlt)

theorem le_roundsHalfEven (h : RoundsHalfEven n d r) (hd : 0 < d) {m : Nat} (hn : m * d ≤ n) : m ≤ r := by
  obtain ⟨-, hr, -⟩ := h
  have hlt : m * d < (r + 1) * d := by rw [Nat.succ_mul]; omega
  exact Nat.lt_succ_iff.mp (Nat.lt_of_mul_lt_mul_right hlt)

/-- No other multiple of `d` is nearer to `n` than the rounded one. -/
theorem roundsHalfEven_nearest (h : RoundsHalfEven n d r) (k : Nat) :
    ((n : Int) - (r * d : Nat)).natAbs ≤ ((n : Int) - (k * d : Nat)).natAbs := by
  obtain ⟨hlow, hhigh, -⟩ := h
  obtain hk | rfl | hk := Nat.lt_trichotomy k r
  · have hgap : k * d + d ≤ r * d := Nat.succ_mul k d ▸ Nat.mul_le_mul_right d hk
    omega
  · exact Nat.le_refl _
  · have hgap : r * d + d ≤ k * d := Nat.succ_mul r d ▸ Nat.mul_le_mul_right d hk
    omega

/-! ### To 53 significant bits -/

/-- Above 53 bits, `n` divided by `2 ^ excessBits n` has 53 of them. -/
theorem excessBits_bounds (n : Nat) :
    n < 2 ^ 53 * 2 ^ excessBits n ∧ (excessBits n = 0 ∨ 2 ^ 52 * 2 ^ excessBits n ≤ n) := by
  rw [← Nat.pow_add, ← Nat.pow_add]
  constructor
  · exact Nat.lt_of_lt_of_le Nat.lt_log2_self (Nat.pow_le_pow_right (by decide) (by unfold excessBits; omega))
  · by_cases h : excessBits n = 0
    · exact .inl h
    · have hn : n ≠ 0 := by rintro rfl; exact h rfl
      have hlog : 52 + excessBits n = n.log2 := by unfold excessBits at h ⊢; omega
      exact .inr (hlog ▸ Nat.log2_self_le hn)

theorem roundsHalfEven_roundTo53 (n : Nat) :
    RoundsHalfEven n (2 ^ excessBits n) (roundHalfEven n (2 ^ excessBits n)) :=
  roundHalfEvenIsNearest n _ (Nat.two_pow_pos _)

/-- No number of 53 significant bits is nearer to `n` than `roundTo53 n`: one with an exponent of `excessBits n` or more
is a multiple of `2 ^ excessBits n`, and one with a smaller exponent is at most the multiple `2 ^ 52 * 2 ^ excessBits n`,
which is at most `n`. -/
theorem roundTo53_nearest {q : Nat} (n e : Nat) (hq : q < 2 ^ 53) :
    ((n : Int) - roundTo53 n).natAbs ≤ ((n : Int) - (q * 2 ^ e : Nat)).natAbs := by
  have hmultiple (k : Nat) : ((n : Int) - roundTo53 n).natAbs ≤ ((n : Int) - (k * 2 ^ excessBits n : Nat)).natAbs :=
    roundsHalfEven_nearest (roundsHalfEven_roundTo53 n) k
  by_cases he : excessBits n ≤ e
  · have hmul : q * 2 ^ e = q * 2 ^ (e - excessBits n) * 2 ^ excessBits n := by
      rw [Nat.mul_assoc, ← Nat.pow_add, Nat.sub_add_cancel he]
    rw [hmul]
    exact hmultiple _
  · obtain ⟨-, hge⟩ := excessBits_bounds n
    have hn : 2 ^ 52 * 2 ^ excessBits n ≤ n := hge.resolve_left (by omega)
    have hsmall : q * 2 ^ e ≤ 2 ^ 52 * 2 ^ excessBits n :=
      calc q * 2 ^ e ≤ 2 ^ 53 * 2 ^ e := Nat.mul_le_mul_right _ (Nat.le_of_lt hq)
        _ = 2 ^ 52 * 2 ^ (e + 1) := by rw [Nat.pow_succ' (n := e), ← Nat.mul_assoc, ← Nat.pow_succ]
        _ ≤ 2 ^ 52 * 2 ^ excessBits n := Nat.mul_le_mul_left _ (Nat.pow_le_pow_right (by decide) (by omega))
    have hnear := hmultiple (2 ^ 52)
    omega

/-- Settles O55: the exponent is `excessBits n`, and the quotient by its power of two is rounded half to even (O54). -/
theorem roundTo53IsNearest : Obligations.RoundTo53IsNearest := by
  intro n
  have hpos : 0 < 2 ^ excessBits n := Nat.two_pow_pos _
  have hround := roundsHalfEven_roundTo53 n
  obtain ⟨hlt, hge⟩ := excessBits_bounds n
  refine ⟨⟨roundHalfEven n (2 ^ excessBits n), excessBits n, roundsHalfEven_le hround hpos (Nat.le_of_lt hlt),
    hge.imp_right (le_roundsHalfEven hround hpos), rfl, ?_, ?_⟩, fun q e => roundTo53_nearest n e⟩
  · obtain ⟨hlow, hhigh, -⟩ := hround
    rw [roundTo53]
    omega
  · obtain ⟨hlow, hhigh, heven⟩ := hround
    rw [roundTo53]
    omega

/-- A number of 53 significant bits bounds what is rounded to 53 bits as it bounds what it is rounded from. -/
theorem roundsTo53_le (h : RoundsTo53 n p) {q e : Nat} (hq : q < 2 ^ 53) (hn : n ≤ q * 2 ^ e) : p ≤ q * 2 ^ e := by
  obtain ⟨-, hnearest⟩ := h
  have hnear := hnearest q e hq
  omega

/-- A number of 53 significant bits is not changed. -/
theorem roundsTo53_eq (h : RoundsTo53 n p) {q e : Nat} (hq : q < 2 ^ 53) (hn : n = q * 2 ^ e) : p = n := by
  obtain ⟨-, hnearest⟩ := h
  have hnear := hnearest q e hq
  omega

/-! ### DutyOf (R105) -/

theorem exponentField_eq (b : BitVec 64) : (b.extractLsb' 52 11).toNat = exponentField b := by
  rw [BitVec.extractLsb'_toNat, Nat.shiftRight_eq_div_pow, exponentField, magnitude]
  omega

theorem fractionField_eq (b : BitVec 64) : (b.extractLsb' 0 52).toNat = magnitude b % 2 ^ 52 := by
  rw [BitVec.extractLsb'_toNat, Nat.shiftRight_zero, magnitude]
  omega

theorem magnitude_le (hb : inUnitInterval b = true) : magnitude b ≤ 1023 * 2 ^ 52 := by
  rw [inUnitInterval_iff] at hb
  rw [magnitude]
  omega

theorem scale_add_exponentField (hb : inUnitInterval b = true) (he : exponentField b ≠ 0) :
    scale b + exponentField b = 1075 := by
  have hmag := magnitude_le hb
  have hexp : exponentField b ≤ 1023 := Nat.div_le_of_le_mul (by omega)
  rw [scale]
  omega

/-- A value of [0, 1] is at most 1. -/
theorem significand_le (hb : inUnitInterval b = true) : significand b ≤ 2 ^ scale b := by
  have hmag := magnitude_le hb
  have hexp : exponentField b = magnitude b / 2 ^ 52 := rfl
  have hfrac : magnitude b % 2 ^ 52 < 2 ^ 52 := Nat.mod_lt _ (by decide)
  by_cases he : exponentField b = 0
  · have hscale : 52 ≤ scale b := by rw [scale]; omega
    calc significand b ≤ 2 ^ 52 := by rw [significand, if_pos he]; omega
      _ ≤ 2 ^ scale b := Nat.pow_le_pow_right (by decide) hscale
  · have hscale := scale_add_exponentField hb he
    rw [significand, if_neg he]
    by_cases hone : exponentField b = 1023
    · have h52 : scale b = 52 := by omega
      rw [h52]
      omega
    · calc 2 ^ 52 + magnitude b % 2 ^ 52 ≤ 2 ^ 53 := by omega
        _ ≤ 2 ^ scale b := Nat.pow_le_pow_right (by decide) (by omega)

theorem roundsTo53_product (b : BitVec 64) :
    RoundsTo53 (significand b * 65535) (roundTo53 (significand b * 65535)) := roundTo53IsNearest _

theorem roundsHalfEven_dutyNumber (b : BitVec 64) :
    RoundsHalfEven (roundTo53 (significand b * 65535)) (2 ^ scale b) (dutyNumber b) :=
  roundHalfEvenIsNearest _ _ (Nat.two_pow_pos _)

/-- 65535 has 53 significant bits and is an integer, so neither rounding of a product up to it passes it. -/
theorem dutyNumber_le (hb : inUnitInterval b = true) : dutyNumber b ≤ 65535 := by
  have hproduct : significand b * 65535 ≤ 65535 * 2 ^ scale b := by
    rw [Nat.mul_comm]
    exact Nat.mul_le_mul_left _ (significand_le hb)
  have hrounded : roundTo53 (significand b * 65535) ≤ 65535 * 2 ^ scale b :=
    roundsTo53_le (roundsTo53_product b) (by decide) hproduct
  exact roundsHalfEven_le (roundsHalfEven_dutyNumber b) (Nat.two_pow_pos _) hrounded

/-- The bits of 0 have the significand 0, which no rounding changes. -/
theorem dutyOf_zero : dutyOf 0x0000000000000000 = 0 := by
  have hproduct : roundTo53 (significand 0 * Config.dutyMax) = 0 := by decide
  have hzero (d : Nat) : roundHalfEven 0 d = 0 := by simp [roundHalfEven]
  rw [dutyOf, dutyNumber, hproduct, hzero]
  rfl

/-- Settles O56: the values by computation, the fields as they lie in the bits, the range by `dutyNumber_le`, the two
roundings by O55 and O54, of which the first changes no product of 53 significant bits. -/
theorem dutyOfIsInRangeAndExact : Obligations.DutyOfIsInRangeAndExact := by
  refine ⟨⟨dutyOf_zero, by decide, by decide, by decide, by decide⟩, fun b hb => ?_⟩
  rw [exponentField_eq, fractionField_eq]
  refine ⟨fun he => ?_, fun he => ?_, dutyNumber_le hb, ?_, ?_, fun q e hq hproduct => ?_⟩
  · exact ⟨by rw [significand, if_pos he], by rw [scale, he]; rfl⟩
  · exact ⟨by rw [significand, if_neg he], scale_add_exponentField hb he⟩
  · have hlt : dutyNumber b < 2 ^ 16 := Nat.lt_succ_of_le (dutyNumber_le hb)
    rw [dutyOf, BitVec.toNat_ofNat, Nat.mod_eq_of_lt hlt]
  · exact ⟨_, roundsTo53_product b, roundsHalfEven_dutyNumber b⟩
  · have hexact : roundTo53 (significand b * 65535) = significand b * 65535 :=
      roundsTo53_eq (roundsTo53_product b) hq hproduct
    exact congrArg (roundHalfEven · (2 ^ scale b)) hexact

end Sys2Proof.Machine
end

section
/-! SendCmd (O16) and SEND_COMMAND (O57, O58): the calls of a command, each performed, and the check of the opcode. -/

namespace Sys2Proof.Machine

open Sys2Proof.Safety

/-! ### SendCmd (R110) -/

/-- Absent data sends the command phase only, as empty data does (R110, D10). -/
theorem cmdEvents_eq_cmd_getD (op : Byte) (data : Option (List Byte)) :
    cmdEvents op data = cmd op (data.getD []) := by
  cases data with
  | none => exact cmdEvents_none op
  | some ps => exact cmdEvents_eq_cmd op ps

/-- Settles O16: SendCmd is the calls of its one or two phases, and `performed_cmd` says what these leave. -/
theorem sendCmdSendsItsPhases : Obligations.SendCmdSendsItsPhases := by
  intro op data s as hanswers
  refine ⟨s.performed (cmd op (data.getD [])), ?_, ?_⟩
  · rw [sendCmd, cmdEvents_eq_cmd_getD]
    exact emitAll_completes _ as hanswers
  · rw [performed_cmd]
    exact ⟨rfl, rfl, rfl⟩

/-! ### The opcode of SEND_COMMAND (R111) -/

theorem opcodeLegal_iff (opcode : Int) : opcodeLegal opcode = true ↔ 0 ≤ opcode ∧ opcode ≤ 255 := decide_eq_true_iff

/-- Settles O57: after its checks SEND_COMMAND is the calls of its command, each performed, and the end of the
request. -/
theorem sendCommandIsTransparent : Obligations.SendCommandIsTransparent := by
  intro opcode data s rest hmode hlow hhigh ⟨hs, hanswers⟩
  have hop : BitVec.ofInt 8 opcode = byte opcode.toNat := fieldBits_byte hlow
  rw [← length_cmd (byte opcode.toNat)] at hanswers ⊢
  rw [execSendCommand_eq data ((opcodeLegal_iff opcode).mpr ⟨hlow, hhigh⟩) hmode hs, hop,
    emitAll_finish_completes hanswers, State.ranThrough, performed_cmd, ← length_cmd (byte opcode.toNat)]
  simp [hanswers, State.close, State.start]

/-- Settles O58: after the setup check the opcode's check ends the request. -/
theorem sendCommandRefusesWideOpcode : Obligations.SendCommandRefusesWideOpcode := by
  refine ⟨rfl, rfl, fun opcode data s hs hmode hwide => ?_⟩
  have hillegal : ¬ opcodeLegal opcode = true := by
    rw [opcodeLegal_iff]
    omega
  exact serve_ended hs ((setUp_set (s := s.start) _ hmode).trans (if_neg hillegal))

end Sys2Proof.Machine
end

section
/-! SET_WINDOW (O59): the two checks, the column's first, and the calls of its two commands, each performed. -/

namespace Sys2Proof.Machine

open Sys2Proof.Safety

variable {xs xe ys ye : Int} {s : State}

/-! ### The checks of SET_WINDOW (R120, R121) -/

theorem windowPair_iff (a b : Int) : windowPair a b = true ↔ LegalPair a b := decide_eq_true_iff

theorem execSetWindow_column (hmode : s.mode ≠ .uninitialized) (hs : s.hung = none) (hx : ¬ LegalPair xs xe) :
    exec (.setWindow xs xe ys ye) s = .next (untouched s (.invalidArgument .column .windowPair)) := by
  rw [← windowPair_iff] at hx
  exact serve_ended hs ((setUp_set (s := s.start) _ hmode).trans (if_neg hx))

theorem execSetWindow_row (hmode : s.mode ≠ .uninitialized) (hs : s.hung = none) (hx : LegalPair xs xe)
    (hy : ¬ LegalPair ys ye) :
    exec (.setWindow xs xe ys ye) s = .next (untouched s (.invalidArgument .row .windowPair)) := by
  rw [← windowPair_iff] at hx hy
  exact serve_ended hs ((setUp_set (s := s.start) _ hmode).trans ((if_pos hx).trans (if_neg hy)))

/-! ### The calls of SET_WINDOW (R121) -/

theorem length_windowEvents (xs xe ys ye : Int) : (windowEvents xs xe ys ye).length = 20 := by
  rw [windowEvents, List.length_append, length_cmd, length_cmd]
  rfl

/-- SET_WINDOW's calls, each performed: two wire commands of four parameter bytes. -/
theorem performed_windowEvents (xs xe ys ye : Int) (s : State) : s.performed (windowEvents xs xe ys ye) = { s with
    cs := .driven .high, dc := .driven .high
    trace := s.trace ++ (windowEvents xs xe ys ye).map .ok
    onBus := s.onBus ++
      [0x2A, byte (xs.toNat / 256), byte xs.toNat, byte (xe.toNat / 256), byte xe.toNat,
        0x2B, byte (ys.toNat / 256), byte ys.toNat, byte (ye.toNat / 256), byte ye.toNat]
    seq := s.seq + 20, answers := s.answers.drop 20 } := by
  have houtputs : ((windowEvents xs xe ys ye).map Entry.ok).foldl Outputs.after s.outputs =
      { s.outputs with cs := .driven .high, dc := .driven .high } := by
    rw [windowEvents, List.map_append, List.foldl_append, outputs_cmd, outputs_cmd]
    rfl
  have hbus : (windowEvents xs xe ys ye).flatMap busBytes =
      [0x2A, byte (xs.toNat / 256), byte xs.toNat, byte (xe.toNat / 256), byte xe.toNat,
        0x2B, byte (ys.toNat / 256), byte ys.toNat, byte (ye.toNat / 256), byte ye.toNat] := by
    rw [windowEvents, List.flatMap_append, busBytes_cmd, busBytes_cmd]
    rfl
  rw [State.performed_eq s houtputs, hbus, length_windowEvents]
  rfl

/-- Settles O59: after its two checks SET_WINDOW is its calls, each performed, and the end of the request; a check that
fails ends it before any call. -/
theorem setWindowChecksThenSends : Obligations.SetWindowChecksThenSends := by
  refine ⟨rfl, rfl, rfl, fun xs xe ys ye s hmode => ⟨fun rest hx hy ⟨hs, hanswers⟩ => ?_, execSetWindow_column hmode,
    execSetWindow_row hmode⟩⟩
  have hcalls : s.answers = List.replicate (windowEvents xs xe ys ye).length .completes ++ rest := by
    rw [length_windowEvents, hanswers]
  rw [execSetWindow_eq ((windowPair_iff xs xe).mpr hx) ((windowPair_iff ys ye).mpr hy) hmode hs,
    emitAll_finish_completes hcalls, State.ranThrough, performed_windowEvents]
  simp [hanswers, State.close, State.start]

end Sys2Proof.Machine
end

section
/-! The configuration record: its table (O9) and the bytes its commands carry (O8). -/

namespace Sys2Proof.Machine

open Sys2Proof.Safety Sys2Proof.Layout

/-- Settles O9: the table, its names and its ranges are computed, whatever the values. -/
theorem configurationTableIsTheRules : Obligations.ConfigurationTableIsTheRules := fun _ => rfl

theorem eq_of_mem_vdvvrhenTrailer {sent : Bool} {b : Byte} (h : b ∈ vdvvrhenTrailer sent) : b = 0xFF := by
  cases sent with
  | false => cases h
  | true => exact List.mem_singleton.mp h

/-- Settles O8: the integer forms are what the encoder gives, so each byte is an OR of placed fields, and none of these
can reach a reserved bit. -/
theorem bringUpCommandsCarryTheRulesBytes : Obligations.BringUpCommandsCarryTheRulesBytes := by
  intro c hc
  have hencode := bringUpCommands_encode hc
  refine ⟨hencode, ?_⟩
  simp only [bringUpCommands, bringUp, madctlCmd, colmodCmd, porchCmd, gateCmd, lcmCmd, frctrlCmd, powerCmd, encode,
    List.cons_append, List.nil_append, List.map_cons, List.cons.injEq, Item.wire.injEq] at hencode
  obtain ⟨⟨-, hmadctl⟩, ⟨-, hcolmod⟩, ⟨-, hporch⟩, ⟨-, hgate⟩, ⟨-, hvcom⟩, ⟨-, hlcm⟩, ⟨-, hvdvvrhen⟩, ⟨-, hvrh⟩,
    ⟨-, hvdv⟩, -, ⟨-, hpower⟩, -⟩ := hencode
  rw [← hmadctl, ← hcolmod, ← hporch, ← hgate, ← hvcom, ← hlcm, ← hvdvvrhen, ← hvrh, ← hvdv, ← hpower]
  have htrailer : ∀ b ∈ vdvvrhenTrailer Config.c2TrailerSent, b = 0xFF := fun _ => eq_of_mem_vdvvrhenTrailer
  simpa (disch := decide) [BitVec.and_or_distrib_right, place_and_eq_zero] using htrailer

end Sys2Proof.Machine
end

section
/-! INIT: the calls and the writes it is, in their order, and from these O37, O39 and O40 (R131, R149). -/

namespace Sys2Proof.Machine

open Sys2Proof.Safety

variable {c : Cfg} {s t : State}

/-- Settles O39: the table's check ends the request before anything else. -/
theorem initRefusesTheFirstIllegalField : Obligations.InitRefusesTheFirstIllegalField := by
  intro c s before after f hs htable hbefore hf
  refine serve_ended hs ?_
  rw [htable]
  exact checkFields_illegal _ _ hbefore hf

/-! ### The calls of INIT (R131) -/

/-- INIT of a legal record: MODE Uninitialized, the bring-up sequence, CSPACE and DUTY, the duty applied, MODE Awake. -/
theorem execInit_eq (hc : cfgLegal c = true) (hs : s.hung = none) : exec (.init c) s =
    (((emitAll (bringUpEvents c) (s.start.setMode .uninitialized)).andThen fun u =>
      emit (.pwmDuty Config.d0) ((u.setCspace .rgb565).setDuty Config.d0)).andThen fun u =>
        .going (u.setMode .awake)).finish :=
  (serve_free _ hs).trans (congrArg Run.finish (checkFields_legal _ _ hc))

/-- INIT of a record that is not legal names a field and does nothing (O39). -/
theorem execInit_illegal (hc : cfgLegal c ≠ true) (hs : s.hung = none) :
    ∃ name range, exec (.init c) s = .next (untouched s (.invalidArgument name range)) := by
  obtain ⟨hlegal, -⟩ | ⟨before, f, after, htable, hbefore, hf, -⟩ := checkFields_cases (cfgTable c) .going s
  · exact absurd hlegal hc
  · exact ⟨_, _, initRefusesTheFirstIllegalField c s before after f hs htable hbefore hf⟩

theorem initEvents_eq (hc : cfgLegal c = true) : initEvents c = bringUpEvents c ++ [.pwmDuty Config.d0] := by
  rw [bringUpEvents_eq hc]
  rfl

/-! ### Every call completing -/

/-- Two calls of the reset pulse, ten for each of thirteen commands with parameters (VDVVRHEN's number of them, R13, does
not matter), five for each of the other three, and the duty's. -/
theorem length_initEvents (c : Cfg) : (initEvents c).length = 148 := by
  simp [initEvents, bringUp, List.flatMap_cons, length_cmd, madctlBytes, colmodBytes, porchBytes, gateBytes, vcomBytes,
    lcmBytes, vdvVrhEnBytes, vrhBytes, vdvBytes, frameRateBytes, powerBytes, gammaBytes, Curve.toList]

theorem outputs_initEvents (c : Cfg) (o : Outputs) : ((initEvents c).map Entry.ok).foldl Outputs.after o =
    ⟨.driven .high, .driven .low, .driven .high, .duty Config.d0⟩ := by
  simp [initEvents, bringUp, List.flatMap_cons, outputs_cmd, Outputs.after]

theorem busBytes_initEvents (c : Cfg) :
    (initEvents c).flatMap busBytes = (bringUp c).flatMap fun p => p.1 :: p.2 := by
  simp [initEvents, List.flatMap_assoc, busBytes_cmd, busBytes]

theorem performed_initEvents (c : Cfg) (s : State) : s.performed (initEvents c) = { s with
    pwm := .duty Config.d0, rst := .driven .high, cs := .driven .high, dc := .driven .low
    trace := s.trace ++ (initEvents c).map .ok
    onBus := s.onBus ++ (bringUp c).flatMap fun p => p.1 :: p.2
    seq := s.seq + 148, answers := s.answers.drop 148 } := by
  rw [State.performed_eq s (outputs_initEvents c s.outputs), busBytes_initEvents, length_initEvents]

theorem withRegisters_setMode (g : Registers) (m : Mode) (s : State) :
    (s.withRegisters g).setMode m = s.withRegisters { g with mode := m } := rfl

/-- Calls made after the write of MODE and before those of CSPACE and DUTY. -/
theorem initWrites_performed (es : List Event) (s : State) :
    (((s.setMode .uninitialized).performed es).setCspace .rgb565).setDuty Config.d0 =
      (s.performed es).withRegisters ⟨.uninitialized, .value .rgb565, .value Config.d0⟩ := by
  have hmode : s.setMode .uninitialized = s.withRegisters { s.registers with mode := .uninitialized } := rfl
  rw [hmode, State.performed_withRegisters]
  rfl

/-- INIT of a legal record is its calls, each performed, with what it writes in the three registers (R191). -/
theorem execInit_completes {rest : List Answer} (hc : cfgLegal c = true) (h : Completing 148 rest s) :
    exec (.init c) s = .next (((s.start.performed (initEvents c)).withRegisters
      ⟨.awake, .value .rgb565, .value Config.d0⟩).close (.ok .none)) := by
  obtain ⟨hs, hanswers⟩ := h
  have hlength : (bringUpEvents c).length = 147 := by simpa [initEvents_eq hc] using length_initEvents c
  have hcalls : emitAll (bringUpEvents c) (s.start.setMode .uninitialized) =
      .going ((s.start.setMode .uninitialized).performed (bringUpEvents c)) :=
    emitAll_completes _ (.completes :: rest) (by rw [hlength]; exact hanswers)
  have hlast : ((s.start.performed (bringUpEvents c)).withRegisters
      ⟨.uninitialized, .value .rgb565, .value Config.d0⟩).answers = .completes :: rest := by
    simp [State.withRegisters, hanswers, hlength]
  rw [execInit_eq hc hs, hcalls, Run.andThen_going, initWrites_performed, emit_completes _ hlast,
    State.completed_withRegisters, Run.andThen_going, withRegisters_setMode, Run.finish_going, initEvents_eq hc,
    State.performed_append, State.performed_cons, State.performed_nil]

/-- Settles O37: INIT's calls, each performed, the writes of its three registers and the end of the request. -/
theorem initCompletes : Obligations.InitCompletes := by
  intro c s rest hc h
  rw [execInit_completes hc h, performed_initEvents]
  obtain ⟨hs, hanswers⟩ := h
  simp [hanswers, State.close, State.start, State.withRegisters]

/-! ### INIT stopped -/

theorem pwmDuty_notMem_bringUpEvents (hc : cfgLegal c = true) (d : U16) : Event.pwmDuty d ∉ bringUpEvents c := by
  rw [bringUpEvents_eq hc, List.mem_append, List.mem_flatMap]
  rintro (h | ⟨p, -, h⟩)
  · simp [resetPulse] at h
  · cases onBusLines_cmd p.1 p.2 _ h

/-- A request in the state `v`, with the call `f` and the write of MODE still to make, can be stopped at `f` only. -/
theorem lastCall_stopped {e f : Event} {m : Mode} {v : State} (hhung : v.hung = none) (hout : v.outcomes = s.outcomes)
    (ht : ((emit f v).andThen fun u => .going (u.setMode m)).finish = .next t)
    (hstop : t.outcomes = s.outcomes ++ [.transportError e] ∨ t.hung = some e) :
    e = f ∧ t.registers = v.registers := by
  obtain ⟨-, h⟩ | ⟨n, -, h⟩ | ⟨n, -, h⟩ := emit_cases f v <;> rw [h] at ht <;> cases ht
  · simp [hhung, hout] at hstop
  · exact ⟨by simpa [hhung, hout, eq_comm] using hstop, State.failed_registers f n v⟩
  · exact ⟨by simpa [hout, eq_comm] using hstop, State.stall_registers f n v⟩

/-- INIT stopped at a call of the bring-up sequence, before it writes CSPACE and DUTY, or at its last call (R131). -/
theorem execInit_stopped {e : Event} (hs : s.hung = none) (ht : exec (.init c) s = .next t)
    (hstop : t.outcomes = s.outcomes ++ [.transportError e] ∨ t.hung = some e) :
    (e ≠ .pwmDuty Config.d0 ∧ t.registers = { s.registers with mode := .uninitialized }) ∨
    (e = .pwmDuty Config.d0 ∧ t.registers = ⟨.uninitialized, .value .rgb565, .value Config.d0⟩) := by
  by_cases hc : cfgLegal c = true
  · have hbefore {pre post : List Event} {f : Event} (h : bringUpEvents c = pre ++ f :: post) :
        f ≠ .pwmDuty Config.d0 := by
      rintro rfl
      exact pwmDuty_notMem_bringUpEvents hc Config.d0 (by simp [h])
    rw [execInit_eq hc hs] at ht
    obtain h | ⟨pre, f, post, n, hf, h⟩ | ⟨pre, f, post, n, hf, h⟩ :=
      emitAll_cases (bringUpEvents c) (s.start.setMode .uninitialized) <;> rw [h] at ht
    · rw [Run.andThen_going, initWrites_performed] at ht
      obtain ⟨he, hg⟩ := lastCall_stopped (by simpa using hs) (by simp) ht hstop
      exact .inr ⟨he, hg⟩
    · cases ht
      obtain rfl : f = e := by simpa [hs] using hstop
      exact .inl ⟨hbefore hf, by simp [State.registers]⟩
    · cases ht
      obtain rfl : f = e := by simpa using hstop
      exact .inl ⟨hbefore hf, by simp [State.registers]⟩
  · obtain ⟨name, range, hend⟩ := execInit_illegal hc hs
    rw [hend] at ht
    cases ht
    simp [untouched, hs] at hstop

/-- Settles O40: the registers of the state INIT was stopped in, by the call it was stopped at. -/
theorem failedInitLeavesUninitialized : Obligations.FailedInitLeavesUninitialized := by
  intro c s t e hs ht hstop
  obtain ⟨he, hg⟩ | ⟨he, hg⟩ := execInit_stopped hs ht hstop
  · obtain ⟨hmode, hcspace, hduty⟩ := Registers.mk.inj hg
    exact ⟨hmode, fun _ => ⟨hcspace, hduty⟩, fun h => absurd h he⟩
  · obtain ⟨hmode, hcspace, hduty⟩ := Registers.mk.inj hg
    exact ⟨hmode, fun h => absurd he h, fun _ => ⟨hcspace, hduty⟩⟩

end Sys2Proof.Machine
end

section
/-! How a request stops, and what stops with it: the reserved headers (O5), a call that never returns (O13), a call
that fails (O19) and the setup check (O24). -/

namespace Sys2Proof.Machine

open Sys2Proof.Safety

variable {h : Byte} {i : Instr} {s t : State}

/-! ### Reserved headers (R65, R175) -/

theorem headerRsv_append_headerOp (h : Byte) : headerRsv h ++ headerOp h = h :=
  BitVec.extractLsb'_append_extractLsb' (w := 4)

/-- A header with RSV zero and OP in 0xB..0xF is a reserved request of that header, whatever its operands. -/
theorem decodeRequest_of_reservedOp (ops : List Operand) (hrsv : headerRsv h = 0) (hop : 0xB ≤ (headerOp h).toNat) :
    (h = 0x0B ∧ decodeRequest h ops = .ok .reservedB) ∨
    ∃ lo : BitVec 2, h = 0b000011#6 ++ lo ∧ decodeRequest h ops = .ok (.reservedCToF lo) := by
  have hlt : (headerOp h).toNat < 16 := (headerOp h).isLt
  have hreserved : (headerOp h).toNat = 11 ∨ (headerOp h).toNat = 12 ∨ (headerOp h).toNat = 13 ∨
      (headerOp h).toNat = 14 ∨ (headerOp h).toNat = 15 := by omega
  obtain hn | hn | hn | hn | hn := hreserved <;> obtain rfl := header_eq hrsv hn
  · exact .inl ⟨rfl, rfl⟩
  · exact .inr ⟨0, rfl, rfl⟩
  · exact .inr ⟨1, rfl, rfl⟩
  · exact .inr ⟨2, rfl, rfl⟩
  · exact .inr ⟨3, rfl, rfl⟩

/-- Settles O5: the header alone decides which reserved request it is, and O6 says how each of them ends. -/
theorem reservedHeadersAreRefused : Obligations.ReservedHeadersAreRefused := by
  intro h ops s hreserved hs
  obtain ⟨hB, hCToF, hRsv⟩ := reservedRequestsEndRefused s hs
  by_cases hrsv : headerRsv h = 0
  · obtain ⟨rfl, hd⟩ | ⟨lo, rfl, hd⟩ :=
      decodeRequest_of_reservedOp ops hrsv (hreserved.resolve_left (absurd hrsv))
    · exact ⟨_, hd, hB⟩
    · exact ⟨_, hd, hCToF lo⟩
  · have hend := hRsv (headerRsv h) (headerOp h)
    rw [headerRsv_append_headerOp] at hend
    exact ⟨_, decodeRequest_of_rsv ops hrsv, hend⟩

/-! ### A call that never returns (R176) -/

/-- A step that changes the state is the execution of the host's next item. -/
theorem exists_exec_of_step (ht : step s = .next t) (hne : s ≠ t) :
    ∃ it i, s.reqs[s.pc]? = some it ∧ decode it = .ok i ∧ exec i s = .next t := by
  cases hit : s.reqs[s.pc]? with
  | none => exact absurd (Host.Outcome.next.inj ((step_of_no_item hit).symm.trans ht)) hne
  | some it =>
    cases hd : decode it with
    | ok i => exact ⟨it, i, rfl, hd, (step_of_decoded hit hd).symm.trans ht⟩
    | error e => cases (step_of_undecodable hit hd).symm.trans ht

/-- A state that a step leaves as it is, every run leaves as it is. -/
theorem run_eq_of_step_eq {M : Host.Core} {u : M.State} (hu : M.step u = .next u) (k : Nat) : M.run k u = .next u := by
  induction k with
  | zero => rfl
  | succ k ih =>
    rw [Host.Core.run, hu]
    exact ih

/-- Settles O13: by O14 and O32 the request that hangs is still the host's next item, and while a call hangs its
execution changes nothing. -/
theorem hangLeavesNoOutcomeForEver : Obligations.HangLeavesNoOutcomeForEver := by
  intro s t e hs ht hhang
  have hne : s ≠ t := by
    rintro rfl
    simp [hs] at hhang
  obtain ⟨it, i, hit, hd, hexec⟩ := exists_exec_of_step ht hne
  obtain ⟨hnone, -, -⟩ | ⟨-, hpc, hout⟩ := pcAdvancesOncePerOutcome i s t hs hexec
  · simp [hnone] at hhang
  · obtain ⟨hreqs, -, -⟩ := noInstructionChangesTheProgram i s t hexec
    have hit' : t.reqs[t.pc]? = some it := by rw [hreqs, hpc, hit]
    exact ⟨hout, hpc, run_eq_of_step_eq (M := core) ((step_of_decoded hit' hd).trans (exec_hung i hhang))⟩

/-! ### A call that fails (R173, R178) -/

/-- Settles O19: of the ways a request stops only a failed call ends it with a TransportError, of that very call. -/
theorem transportErrorKeepsThePrefix : Obligations.TransportErrorKeepsThePrefix := by
  intro i s t e hs ht hout
  obtain ⟨d, hd⟩ := exists_duty s
  obtain ⟨done, g, ⟨o, -, ho, rfl⟩ | ⟨f, n, -, rfl⟩ | ⟨f, n, -, rfl⟩⟩ := exec_next_calls hd hs ht
  · exact absurd (by simpa using hout) (ho e)
  · obtain rfl : f = e := by simpa using hout
    exact ⟨done, by simp⟩
  · simp at hout

/-! ### The setup check (R174) -/

/-- A request with a setup check makes it before anything else. -/
theorem exists_exec_eq_setUp (hi : hasSetupCheck i = true) : ∃ k, ∀ s, exec i s = serve (setUp k) s := by
  cases i with
  | makeFrameBuffer | showFrame | sleep | wake | dim | sendCommand | setWindow | colorSpace =>
    exact ⟨_, fun _ => rfl⟩
  | _ => cases hi

/-- Settles O24: the check, which comes first, ends the request in the state it started in. -/
theorem setupCheckComesFirst : Obligations.SetupCheckComesFirst := by
  intro i s hi hs hmode
  obtain ⟨k, hk⟩ := exists_exec_eq_setUp hi
  exact (hk s).trans (serve_ended hs (setUp_uninitialized k hmode))

end Sys2Proof.Machine
end

section
/-! Reset and its drivers: the power-on state (O12) and the invariants it meets (O30), who drives RST (O33), and the
state after a complete INIT (O38). -/

namespace Sys2Proof.Machine

open Sys2Proof.Safety

variable {c : Cfg} {d : U16} {e : Event} {i : Instr} {s t : State}

/-! ### Power-on (R190) -/

/-- Settles O12: each component is the one the power-on state is given. -/
theorem powerOnState : Obligations.PowerOnState := ⟨rfl, rfl, rfl, rfl, rfl, rfl, rfl, rfl, rfl, rfl⟩

/-- Settles O30: MODE is Uninitialized, and with TRACE empty no output has a level and no write stands outside its
bracket. -/
theorem powerOnMeetsTheInvariants : Obligations.PowerOnMeetsTheInvariants :=
  ⟨fun hm => absurd rfl hm, rfl, rfl, bracketed_nil⟩

/-! ### Who drives RST (R24, R193) -/

/-- The call is on another line, the serial bus or PWM. -/
abbrev Event.SparesRST (e : Event) : Prop := ∀ l, e ≠ .setRST l

theorem Event.SparesRST.keeps_rst (he : e.SparesRST) : e.Keeps Outputs.rst := by
  cases e with
  | setRST l => exact absurd rfl (he l)
  | _ => exact fun _ => ⟨rfl, rfl⟩

theorem pwmDuty_sparesRST (d : U16) : ∀ e ∈ [Event.pwmDuty d], e.SparesRST := by simp [Event.SparesRST]

theorem cmd_sparesRST (op : Byte) (ps : List Byte) : ∀ e ∈ cmd op ps, e.SparesRST := by
  rintro e he l rfl
  cases onBusLines_cmd op ps _ he

theorem windowEvents_sparesRST (xs xe ys ye : Int) : ∀ e ∈ windowEvents xs xe ys ye, e.SparesRST :=
  List.forall_mem_append.mpr ⟨cmd_sparesRST _ _, cmd_sparesRST _ _⟩

/-- Every sequence but INIT's is made of wire commands and duties (R193). -/
theorem sequenceOf_sparesRST (hi : ∀ c, i ≠ .init c) (d : U16) : ∀ e ∈ sequenceOf i d, e.SparesRST := by
  cases i with
  | init cfg => exact absurd rfl (hi cfg)
  | showFrame buf => exact List.forall_mem_append.mpr ⟨windowEvents_sparesRST _ _ _ _, cmd_sparesRST _ _⟩
  | sleep =>
    exact List.forall_mem_append.mpr
      ⟨List.forall_mem_append.mpr ⟨pwmDuty_sparesRST 0, cmd_sparesRST _ _⟩, cmd_sparesRST _ _⟩
  | wake =>
    exact List.forall_mem_append.mpr
      ⟨List.forall_mem_append.mpr ⟨cmd_sparesRST _ _, cmd_sparesRST _ _⟩, pwmDuty_sparesRST d⟩
  | dim b =>
    cases b with
    | none => exact pwmDuty_sparesRST d
    | some v => exact pwmDuty_sparesRST _
  | setWindow xs xe ys ye => exact windowEvents_sparesRST xs xe ys ye
  | makeFrameBuffer | colorSpace | packColor | packRgb565 | reservedB | reservedCToF | reservedRsv => exact nofun
  | _ => exact cmd_sparesRST _ _

/-- The entries an instruction adds to TRACE are calls of its sequence (O21). -/
theorem event_mem_sequenceOf {x : Entry} (hd : ∀ d', s.duty = .value d' → d' = d) (hs : s.hung = none)
    (ht : exec i s = .next t) (hx : x ∈ t.trace.drop s.trace.length) : x.event ∈ sequenceOf i d := by
  obtain ⟨done, ⟨hdone, htrace⟩ | ⟨e, hdone, htrace⟩⟩ := callsFollowTheSequence i s t d hd hs ht
  · rw [htrace, List.drop_left] at hx
    obtain ⟨f, hf, rfl⟩ := List.mem_map.mp hx
    exact hdone.subset hf
  · rw [htrace, List.append_assoc, List.drop_left, List.mem_append, List.mem_singleton, List.mem_map] at hx
    obtain ⟨f, hf, rfl⟩ | rfl := hx
    · exact hdone.subset (List.mem_append_left _ hf)
    · exact hdone.subset (List.mem_append_right done (List.mem_singleton_self e))

/-- Settles O33: no call of another instruction's sequence is on RST; while an earlier call hangs nothing changes. -/
theorem onlyInitDrivesReset : Obligations.OnlyInitDrivesReset := by
  intro i s t hi ht
  have hseq := sequenceOf_sparesRST hi
  have hrst : t.outputs.rst = s.outputs.rst := exec_keeps_outputs (fun d e he => (hseq d e he).keeps_rst) ht
  refine ⟨hrst, fun x hx => ?_⟩
  cases hs : s.hung with
  | some e =>
    obtain rfl : s = t := by simpa [exec_hung i hs] using ht
    simp at hx
  | none =>
    obtain ⟨d, hd⟩ := exists_duty s
    exact hseq d x.event (event_mem_sequenceOf hd hs ht hx)

/-! ### The state after INIT (R191) -/

/-- An INIT that ends with `Ok` passed its check and had every call completed: a failed check or call ends it with
another outcome, and a hang adds none. -/
theorem execInit_ok {v : Value} (hs : s.hung = none) (ht : exec (.init c) s = .next t)
    (hout : t.outcomes = s.outcomes ++ [.ok v]) :
    t = ((s.start.performed (initEvents c)).withRegisters ⟨.awake, .value .rgb565, .value Config.d0⟩).close
      (.ok .none) := by
  by_cases hc : cfgLegal c = true
  · rw [execInit_eq hc hs] at ht
    obtain h | ⟨pre, f, post, n, -, h⟩ | ⟨pre, f, post, n, -, h⟩ :=
      emitAll_cases (bringUpEvents c) (s.start.setMode .uninitialized) <;> rw [h] at ht
    · rw [Run.andThen_going, initWrites_performed] at ht
      obtain ⟨-, hlast⟩ | ⟨n, -, hlast⟩ | ⟨n, -, hlast⟩ := emit_cases (.pwmDuty Config.d0)
        ((s.start.performed (bringUpEvents c)).withRegisters ⟨.uninitialized, .value .rgb565, .value Config.d0⟩) <;>
        rw [hlast] at ht <;> cases ht
      · rw [initEvents_eq hc, State.performed_append, State.completed_withRegisters, withRegisters_setMode]
        rfl
      · simp at hout
      · simp at hout
    · cases ht
      simp at hout
    · cases ht
      simp at hout
  · obtain ⟨name, range, hend⟩ := execInit_illegal hc hs
    rw [hend] at ht
    cases ht
    simp [untouched] at hout

/-- Settles O38: the calls of INIT, each performed, and its writes are all that an INIT that ended with `Ok` did. -/
theorem stateAfterInitEndsWithOk : Obligations.StateAfterInitEndsWithOk := by
  intro c s t v hs ht hout
  rw [execInit_ok hs ht hout, performed_initEvents]
  exact ⟨rfl, rfl, rfl, rfl, rfl, rfl, rfl, rfl, length_initEvents c⟩

end Sys2Proof.Machine
end

section
/-! A request hangs only at a call the transport answers never to return from, so every request ends when every call
returns (O22; R44, R176, R207). -/

namespace Sys2Proof.Machine

open Sys2Proof.Safety

variable {i : Instr} {s t : State}

/-! ### The call a request hangs at -/

/-- Where the request hangs, the transport's answer to its next call is that it never returns (R44(c)); until then no
call hangs. -/
def Run.HangsAtNever : Run → Prop
  | .going s | .ended _ s => s.hung = none
  | .stuck _ s => ∃ n, s.answer = .never n
  | .fault _ => True

theorem State.stall_answer (e : Event) (n : Nat) (s : State) : (s.stall e n).answer = s.answer := by
  simp [State.answer]

theorem Run.HangsAtNever.andThen {r : Run} {k : State → Run} (hr : r.HangsAtNever)
    (hk : ∀ u, u.hung = none → (k u).HangsAtNever) : (r.andThen k).HangsAtNever := by
  cases r with
  | going u => exact hk u hr
  | ended o u => exact hr
  | stuck e u => exact hr
  | fault f => trivial

theorem emit_hangsAtNever (e : Event) (hs : s.hung = none) : (emit e s).HangsAtNever := by
  obtain ⟨-, h⟩ | ⟨n, -, h⟩ | ⟨n, hn, h⟩ := emit_cases e s <;> rw [h]
  · exact (State.completed_hung e s).trans hs
  · exact (State.failed_hung e n s).trans hs
  · exact ⟨n, (State.stall_answer e n s).trans hn⟩

theorem emitAll_hangsAtNever (es : List Event) (hs : s.hung = none) : (emitAll es s).HangsAtNever := by
  induction es generalizing s with
  | nil => exact hs
  | cons e es ih => exact (emit_hangsAtNever e hs).andThen fun _ => ih

theorem setUp_hangsAtNever {k : State → Run} (hs : s.hung = none) (hk : (k s).HangsAtNever) :
    (setUp k s).HangsAtNever := by
  by_cases hm : s.mode = .uninitialized
  · rwa [setUp_uninitialized k hm]
  · rwa [setUp_set k hm]

theorem checkFields_hangsAtNever (cs : List FieldCheck) {k : State → Run} (hs : s.hung = none)
    (hk : (k s).HangsAtNever) : (checkFields cs k s).HangsAtNever := by
  obtain ⟨-, h⟩ | ⟨pre, c, post, -, -, -, h⟩ := checkFields_cases cs k s <;> rw [h]
  · exact hk
  · exact hs

theorem readCspace_hangsAtNever {k : ColorSpace → State → Run} (hk : ∀ c, (k c s).HangsAtNever) :
    (readCspace k s).HangsAtNever := by
  cases h : s.cspace with
  | noValue => simp [readCspace, h, Run.HangsAtNever]
  | value c => rw [readCspace_value k h]; exact hk c

theorem applyDuty_hangsAtNever (hs : s.hung = none) : (applyDuty s).HangsAtNever := by
  cases h : s.duty with
  | noValue => simp [applyDuty, readDuty, h, Run.HangsAtNever]
  | value d => rw [applyDuty_value h]; exact emit_hangsAtNever _ hs

theorem setWindow_hangsAtNever (xs xe ys ye : Int) (hs : s.hung = none) :
    (setWindow xs xe ys ye s).HangsAtNever := by
  obtain ⟨-, h⟩ | ⟨-, -, h⟩ | ⟨-, -, h⟩ := setWindow_cases xs xe ys ye s <;> rw [h]
  · exact hs
  · exact hs
  · exact emitAll_hangsAtNever _ hs

/-- Every instruction issued is a request that hangs only where the transport answers that a call never returns. -/
theorem exec_hangsAtNever (i : Instr) (hs : s.hung = none) : ∃ r : Run, exec i s = r.finish ∧ r.HangsAtNever := by
  have hstart : s.start.hung = none := hs
  cases i with
  | init cfg =>
    refine ⟨_, serve_free _ hs, checkFields_hangsAtNever _ hstart (.andThen (.andThen ?_ ?_) ?_)⟩
    · exact emitAll_hangsAtNever _ hstart
    · exact fun u hu => applyDuty_hangsAtNever hu
    · exact fun u hu => hu
  | makeFrameBuffer | colorSpace =>
    exact ⟨_, serve_free _ hs, setUp_hangsAtNever hstart (readCspace_hangsAtNever fun _ => hstart)⟩
  | showFrame buf =>
    refine ⟨_, serve_free _ hs, setUp_hangsAtNever hstart ((setWindow_hangsAtNever _ _ _ _ hstart).andThen ?_)⟩
    exact fun u hu => emitAll_hangsAtNever _ hu
  | sleep =>
    refine ⟨_, serve_free _ hs, setUp_hangsAtNever hstart (.andThen (.andThen (.andThen ?_ ?_) ?_) ?_)⟩
    · exact emit_hangsAtNever _ hstart
    · exact fun u hu => emitAll_hangsAtNever _ hu
    · exact fun u hu => emitAll_hangsAtNever _ hu
    · exact fun u hu => hu
  | wake =>
    refine ⟨_, serve_free _ hs, setUp_hangsAtNever hstart (.andThen (.andThen (.andThen ?_ ?_) ?_) ?_)⟩
    · exact emitAll_hangsAtNever _ hstart
    · exact fun u hu => emitAll_hangsAtNever _ hu
    · exact fun u hu => applyDuty_hangsAtNever hu
    · exact fun u hu => hu
  | dim b =>
    refine ⟨_, serve_free _ hs, setUp_hangsAtNever hstart ?_⟩
    cases b with
    | none => exact applyDuty_hangsAtNever hstart
    | some v =>
      dsimp only
      split
      · exact applyDuty_hangsAtNever hstart
      · exact hstart
  | sendCommand opcode data =>
    refine ⟨_, serve_free _ hs, setUp_hangsAtNever hstart ?_⟩
    split
    · exact emitAll_hangsAtNever _ hstart
    · exact hstart
  | setWindow xs xe ys ye =>
    exact ⟨_, serve_free _ hs, setUp_hangsAtNever hstart (setWindow_hangsAtNever xs xe ys ye hstart)⟩
  | packColor | packRgb565 => exact ⟨_, serve_free _ hs, checkFields_hangsAtNever _ hstart hstart⟩
  | reservedB | reservedCToF | reservedRsv => exact ⟨_, serve_free _ hs, hstart⟩
  | _ => exact ⟨_, serve_free _ hs, emitAll_hangsAtNever _ hstart⟩

/-- Where the invariant of R33 holds an instruction answers a next state, in which a call hangs only where the
transport never returns from it. -/
theorem exists_exec_next (i : Instr) (hv : Valued s) (hs : s.hung = none) :
    ∃ t, exec i s = .next t ∧ (t.hung ≠ none → ∃ n, t.answer = .never n) := by
  obtain ⟨r, hr, hnever⟩ := exec_hangsAtNever i hs
  cases r with
  | going u => exact ⟨_, hr, fun hhang => absurd hnever hhang⟩
  | ended o u => exact ⟨_, hr, fun hhang => absurd hnever hhang⟩
  | stuck e u => exact ⟨_, hr, fun _ => hnever⟩
  | fault f => exact absurd hr (exec_ne_fault i f hv)

/-! ### The longest sequence -/

theorem length_cmd_le (op : Byte) (ps : List Byte) : (cmd op ps).length ≤ 10 := by
  rw [length_cmd]
  split <;> decide

/-- No sequence has more calls than INIT's 148. -/
theorem length_sequenceOf_le (i : Instr) (d : U16) : (sequenceOf i d).length ≤ 148 := by
  have hcmd (op : Byte) (ps : List Byte) : (cmd op ps).length ≤ 148 :=
    Nat.le_trans (length_cmd_le op ps) (by decide)
  cases i with
  | init cfg => exact Nat.le_of_eq (length_initEvents cfg)
  | showFrame buf =>
    rw [sequenceOf, length_showEvents]
    split <;> decide
  | setWindow xs xe ys ye =>
    have hwindow : (windowEvents xs xe ys ye).length ≤ 10 + 10 := by
      rw [windowEvents, List.length_append]
      exact Nat.add_le_add (length_cmd_le _ _) (length_cmd_le _ _)
    exact Nat.le_trans hwindow (by decide)
  | dim b => cases b <;> simp [sequenceOf]
  | sleep | wake | makeFrameBuffer | colorSpace | packColor | packRgb565 | reservedB | reservedCToF | reservedRsv =>
    simp [sequenceOf, sleepEvents, wakeEvents, length_cmd]
  | _ => exact hcmd _ _

/-- An instruction hangs at one of its sequence's calls, the answers to those before it used up. -/
theorem answers_of_exec_hangs (hs : s.hung = none) (ht : exec i s = .next t) (hhang : t.hung ≠ none) :
    ∃ k < 148, t.answers = s.answers.drop k := by
  obtain ⟨d, hd⟩ := exists_duty s
  obtain ⟨done, g, ⟨o, -, -, rfl⟩ | ⟨e, n, -, rfl⟩ | ⟨e, n, hdone, rfl⟩⟩ := exec_next_calls hd hs ht
  · simp [hs] at hhang
  · simp [hs] at hhang
  · have hlt : (done ++ [e]).length ≤ 148 :=
      Nat.le_trans hdone.length_le (length_sequenceOf_le i d)
    rw [List.length_append, List.length_singleton] at hlt
    exact ⟨done.length, hlt, by simp [State.withRegisters]⟩

theorem answer_mem_of_answers_drop {k : Nat} (hk : k < s.answers.length) (h : t.answers = s.answers.drop k) :
    t.answer ∈ s.answers := by
  rw [State.answer_cons (h.trans (List.drop_eq_getElem_cons hk))]
  exact List.getElem_mem hk

/-- Settles O22: by O14 an instruction that does not hang has one outcome, and one that hangs has met, among its first
148 answers, one that never returns. -/
theorem requestEndsWhenCallsReturn : Obligations.RequestEndsWhenCallsReturn := by
  intro i s hv hs hlength hreturns
  obtain ⟨t, ht, hnever⟩ := exists_exec_next i hv hs
  obtain ⟨hhung, hpc, o, hout⟩ | ⟨⟨e, he⟩, -, -⟩ := pcAdvancesOncePerOutcome i s t hs ht
  · exact ⟨t, o, ht, hhung, hpc, hout⟩
  · have hhang : t.hung ≠ none := by simp [he]
    obtain ⟨n, hn⟩ := hnever hhang
    obtain ⟨k, hk, hanswers⟩ := answers_of_exec_hangs hs ht hhang
    exact absurd hn (hreturns _ (answer_mem_of_answers_drop (Nat.lt_of_lt_of_le hk hlength) hanswers) n)

end Sys2Proof.Machine
end
